-- ==== Sys2Proof/Word.lean ====
section
/-! DEFINITION. The widths of the block: command words, buffer bytes, grayscale levels and dot-correction values;
the two ports a word can arrive on; and the codes of the recorded faults. -/

namespace Sys2Proof

/-- A 32-bit word on the command port or the tick port (30_encoding.md R100, R101). -/
abbrev Word := BitVec 32

/-- One byte of a grayscale buffer (20_memory.md R70). -/
abbrev Byte := BitVec 8

/-- A 12-bit unsigned grayscale value or fade rate (10_state.md R42, R44). -/
abbrev Level := BitVec 12

/-- A 6-bit dot-correction value, 0 to 63 (45_init.md R274). -/
abbrev Correction := BitVec 6

/-- The two ports that carry words (10_state.md R34): the host's command port and the timing source's tick port. -/
inductive Port
  | command
  | tick
  deriving DecidableEq, Repr

/-- The fault codes of 60_exceptions.md R301 that can be recorded (0, NONE, is the absence of one). -/
inductive FaultCode
  /-- Code 1: a command-port word whose opcode is unassigned there (30_encoding.md R115). -/
  | illegalCommand
  /-- Code 2: a reserved bit set in an INIT, SETF or REQ word (30_encoding.md R116). -/
  | reservedBits
  /-- Code 3: SETB, SETF or REQ while ARMED = 0 (60_exceptions.md R302). -/
  | notInitialized
  /-- Code 4: INIT while ARMED = 1 (60_exceptions.md R303). -/
  | reinit
  deriving DecidableEq, Repr

end Sys2Proof
end

