-- ==== Sys2Proof/Syntax.lean ====
section
/-! DEFINITION. The five operations of the block, one constructor per row of spec/opcode_table.json. -/

namespace Sys2Proof

/-- The operations of 30_encoding.md R105–R109, with their operand fields as encoded (R103, R112–R114).
No operation has an address or a register operand. -/
inductive Instr
  /-- INIT, `initializeDriver()` (45_init.md R270). -/
  | init
  /-- SETB ch, val, `setBrightness(channel, value)` (41_packer.md R167): `ch` is unsigned, `val` is two's complement. -/
  | setb (ch : BitVec 12) (val : BitVec 16)
  /-- SETF on, off, `setFadeRates(onSpeed, offSpeed)` (44_fade.md R252), both unsigned. -/
  | setf (on off : BitVec 12)
  /-- REQ, `requestUpdate()` (42_coordinator.md R193). -/
  | req
  /-- TICK, one invocation of the Periodic Output Handler (43_output_handler.md R210). -/
  | tick
  deriving DecidableEq, Repr

end Sys2Proof
end

