-- ==== Sys2Proof/WellFormed.lean ====
section
/-! DEFINITION. What makes an operation well formed on a port, and the operand ranges an assembler accepts.
Every value of an operand FIELD is legal (30_encoding.md R106, R107, R112, R113), so the only check on a decoded
operation is the port that may carry it; the checks on a SOURCE line's integers are those of R121. -/

namespace Sys2Proof

/-- The port that carries an operation: TICK only the tick port, the rest only the command port
(30_encoding.md R100, R109). -/
def Instr.port : Instr → Port
  | .init => .command
  | .setb _ _ => .command
  | .setf _ _ => .command
  | .req => .command
  | .tick => .tick

/-- An operation is well formed on a port that may carry it (30_encoding.md R100, R109). -/
def Instr.wellFormed (p : Port) (i : Instr) : Bool := decide (i.port = p)

/-- `ch`, `on` and `off` of a source line: an integer in [0, 4095] (30_encoding.md R121). -/
def wellFormedUnsigned (x : Int) : Bool := decide (0 ≤ x) && decide (x ≤ 4095)

/-- `val` of a source line: an integer in [−32768, 32767] (30_encoding.md R121). -/
def wellFormedValue (x : Int) : Bool := decide (-32768 ≤ x) && decide (x ≤ 32767)

end Sys2Proof
end

