-- ==== Sys2Proof/Decode.lean ====
section
/-! DEFINITION. Decoding of command-port and tick-port words (30_encoding.md R101–R118), total on all 2^32 words,
and the encoder written from the same table (R103, R120). -/

namespace Sys2Proof

/-- The result of decoding a word: an operation, or the fault that the word records (30_encoding.md R111). -/
inductive Decoded
  | ok (i : Instr)
  | bad (c : FaultCode)
  deriving DecidableEq, Repr

/-- The opcode field, bits [31:28] (30_encoding.md R101). -/
def opcodeField (w : Word) : BitVec 4 := w.extractLsb' 28 4

/-- `ch` of format B, bits [27:16] (30_encoding.md R103). -/
def chField (w : Word) : BitVec 12 := w.extractLsb' 16 12

/-- `val` of format B, bits [15:0] (30_encoding.md R103). -/
def valField (w : Word) : BitVec 16 := w.extractLsb' 0 16

/-- `on` of format F, bits [23:12] (30_encoding.md R103). -/
def onField (w : Word) : BitVec 12 := w.extractLsb' 12 12

/-- `off` of format F, bits [11:0] (30_encoding.md R103). -/
def offField (w : Word) : BitVec 12 := w.extractLsb' 0 12

/-- The bits format N reserves, [27:0] (30_encoding.md R103). -/
def reservedN (w : Word) : BitVec 28 := w.extractLsb' 0 28

/-- The bits format F reserves, [27:24] (30_encoding.md R103). -/
def reservedF (w : Word) : BitVec 4 := w.extractLsb' 24 4

/-- Decode a command-port word (30_encoding.md R111): first the opcode, then the reserved bits (60_exceptions.md R305). -/
def decodeCommand (w : Word) : Decoded :=
  if opcodeField w = 0x1#4 then
    if reservedN w ≠ 0#28 then .bad .reservedBits else .ok .init
  else if opcodeField w = 0x2#4 then .ok (.setb (chField w) (valField w))
  else if opcodeField w = 0x3#4 then
    if reservedF w ≠ 0#4 then .bad .reservedBits else .ok (.setf (onField w) (offField w))
  else if opcodeField w = 0x4#4 then
    if reservedN w ≠ 0#28 then .bad .reservedBits else .ok .req
  else .bad .illegalCommand

/-- The one word the timing source sends (30_encoding.md R109). -/
def tickWord : Word := 0x70000000#32

/-- Decode a tick-port word: only TICK's word arrives there (30_encoding.md R109). -/
def decodeTick (w : Word) : Option Instr := if w = tickWord then some .tick else none

/-- The opcode of each operation (30_encoding.md R105–R109). -/
def Instr.opcode : Instr → BitVec 4
  | .init => 0x1#4
  | .setb _ _ => 0x2#4
  | .setf _ _ => 0x3#4
  | .req => 0x4#4
  | .tick => 0x7#4

/-- The word of an operation, by the formats of 30_encoding.md R103 (the words of R120). -/
def encode (i : Instr) : Word :=
  match i with
  | .init => i.opcode ++ 0#28
  | .setb ch val => i.opcode ++ ch ++ val
  | .setf on off => i.opcode ++ 0#4 ++ on ++ off
  | .req => i.opcode ++ 0#28
  | .tick => i.opcode ++ 0#28

/-- The operation read from an opcode-table word: from the command port where that port accepts the word, and from
the tick port otherwise (TICK's row names the tick port). A word is 32 bits (30_encoding.md R101), and nothing longer
is one. -/
def decodeTableWord (nbits w : Nat) : Option Instr :=
  if nbits ≤ 32 ∧ w < 2 ^ 32 then
    match decodeCommand (BitVec.ofNat 32 w) with
    | .ok i => some i
    | .bad _ => decodeTick (BitVec.ofNat 32 w)
  else none

end Sys2Proof
end

