-- ==== Sys2Proof/Config.lean ====
section
/-! DEFINITION. The implementation parameters of 00_scope.md R6, when they are well formed, and the values the spec
leaves OPEN. A configuration is fixed for one block and never changes (10_state.md R33); every definition of the
model takes it as an argument, through the state it is paired with (notes/assumptions/1.md). -/

namespace Sys2Proof

/-- The parameters as written, before any check (00_scope.md R6). -/
structure RawConfig where
  /-- DEVICE_COUNT, written N (R5). -/
  deviceCount : Nat
  /-- FADE_ENABLED: `true` is the fade variant, `false` the direct-write variant (R8). -/
  fadeEnabled : Bool
  /-- SWAPS, applied in list order (40_mapper.md R142). -/
  swaps : List (Nat × Nat)
  /-- LOCAL_PERM, by local index (40_mapper.md R144). -/
  localPerm : List (Fin 16)
  /-- FADE_ON_DEFAULT (10_state.md R44). -/
  fadeOnDefault : Level
  /-- FADE_OFF_DEFAULT (10_state.md R44). -/
  fadeOffDefault : Level
  /-- DC_TABLE, by logical channel (45_init.md R274). -/
  dcTable : List Correction
  deriving DecidableEq, Repr

namespace RawConfig

/-- T, the number of channels: 16 × N (00_scope.md R5). -/
def channels (r : RawConfig) : Nat := 16 * r.deviceCount

/-- 1 ≤ N ≤ 256 (00_scope.md R5). -/
def deviceCountOk (r : RawConfig) : Bool := decide (1 ≤ r.deviceCount) && decide (r.deviceCount ≤ 256)

/-- Every index in SWAPS is below T (40_mapper.md R143). -/
def swapsInRange (r : RawConfig) : Bool :=
  r.swaps.all fun p => decide (p.1 < r.channels) && decide (p.2 < r.channels)

/-- The index 0 is in no pair of SWAPS (40_mapper.md R147). -/
def swapsFixZero (r : RawConfig) : Bool := r.swaps.all fun p => decide (p.1 ≠ 0) && decide (p.2 ≠ 0)

/-- The table has 16 entries (40_mapper.md R144). -/
def localPermComplete (r : RawConfig) : Bool := decide (r.localPerm.length = 16)

/-- No entry of the table is repeated; with 16 entries it is then a bijection (40_mapper.md R144). -/
def localPermInjective (r : RawConfig) : Bool := decide r.localPerm.Nodup

/-- LOCAL_PERM[0] = 0 (40_mapper.md R147). -/
def localPermFixesZero (r : RawConfig) : Bool := decide (r.localPerm[0]? = some 0)

/-- DC_TABLE has one entry for each of the T logical channels (00_scope.md R6). -/
def dcTableComplete (r : RawConfig) : Bool := decide (r.dcTable.length = r.channels)

/-- A well-formed configuration passes every check. -/
def wf (r : RawConfig) : Bool :=
  r.deviceCountOk && r.swapsInRange && r.swapsFixZero && r.localPermComplete && r.localPermInjective &&
    r.localPermFixesZero && r.dcTableComplete

end RawConfig

/-- A configuration that passed the checks. An ill-formed one cannot be built (40_mapper.md R143, R144, R147;
notes/assumptions/9.md). -/
structure Config extends RawConfig where
  ok : toRawConfig.wf = true
  deriving DecidableEq, Repr

/-- Why a configuration is refused. -/
inductive ConfigError
  /-- N is 0 or above 256 (00_scope.md R5). -/
  | deviceCount
  /-- An index in SWAPS is T or more (40_mapper.md R143). -/
  | swapIndex
  /-- The index 0 is in SWAPS (40_mapper.md R147). -/
  | swapOfZero
  /-- LOCAL_PERM does not have 16 entries (40_mapper.md R144). -/
  | localPermLength
  /-- LOCAL_PERM has a repeated entry (40_mapper.md R144). -/
  | localPermRepeats
  /-- LOCAL_PERM[0] is not 0 (40_mapper.md R147). -/
  | localPermOfZero
  /-- DC_TABLE does not have T entries (00_scope.md R6). -/
  | dcTableLength
  deriving DecidableEq, Repr

/-- The first check that a configuration fails, in the order of `RawConfig.wf`. -/
def RawConfig.firstError (r : RawConfig) : ConfigError :=
  if r.deviceCountOk = false then .deviceCount
  else if r.swapsInRange = false then .swapIndex
  else if r.swapsFixZero = false then .swapOfZero
  else if r.localPermComplete = false then .localPermLength
  else if r.localPermInjective = false then .localPermRepeats
  else if r.localPermFixesZero = false then .localPermOfZero
  else .dcTableLength

namespace Config

/-- Accept a configuration or refuse it by name (40_mapper.md R143, R144, R147). -/
def ofRaw (r : RawConfig) : Except ConfigError Config :=
  if h : r.wf = true then .ok ⟨r, h⟩ else .error r.firstError

/-- T = totalChannels (00_scope.md R5). -/
abbrev channels (c : Config) : Nat := c.toRawConfig.channels

/-- B, the bytes in each grayscale buffer: 24 × N (00_scope.md R5). -/
def bufferBytes (c : Config) : Nat := 24 * c.deviceCount

/-- L_GS, the grayscale bits shifted per frame: 192 × N (00_scope.md R5). -/
def frameBits (c : Config) : Nat := 192 * c.deviceCount

/-- L_DC, the dot-correction bits: 96 × N (00_scope.md R5). -/
def correctionBits (c : Config) : Nat := 96 * c.deviceCount

/-- The identity table of the reference test configuration (00_scope.md R9). -/
def identityPerm : List (Fin 16) := List.finRange 16

/-- The default SWAPS (40_mapper.md R142). -/
def defaultSwaps : List (Nat × Nat) := [(11, 12), (13, 14), (52, 56), (90, 93)]

/-- The default DC_TABLE: 63 for every channel (45_init.md R274). -/
def defaultCorrection (channels : Nat) : List Correction := List.replicate channels 63#6

/-- OPEN (40_mapper.md R144): the entries of LOCAL_PERM, which the source does not give. -/
opaque openPermEntries : List (Fin 16)

/-- OPEN (10_state.md R44, R62): FADE_ON_DEFAULT. -/
opaque fadeOnDefaultValue : Level

/-- OPEN (10_state.md R44, R62): FADE_OFF_DEFAULT. -/
opaque fadeOffDefaultValue : Level

/-- What makes a table a LOCAL_PERM: 16 entries, none repeated, the first 0 (40_mapper.md R144, R147). -/
def permOk (p : List (Fin 16)) : Bool :=
  decide (p.length = 16) && decide p.Nodup && decide (p[0]? = some 0)

/-- LOCAL_PERM of this hardware: some well-formed table, and nothing says which one. It is the open table
where that is well formed, and a well-formed stand-in where it is not (notes/assumptions/2.md). -/
def openPerm : List (Fin 16) := if permOk openPermEntries then openPermEntries else identityPerm

theorem permOk_identityPerm : permOk identityPerm = true := by decide

theorem permOk_openPerm : permOk openPerm = true := by
  unfold openPerm
  split
  · assumption
  · exact permOk_identityPerm

/-- The parameters with their values for this hardware (00_scope.md R6), but for the table and the two rates, which
are arguments: N = 7, the default SWAPS and the default DC_TABLE. -/
def rawReference (fade : Bool) (perm : List (Fin 16)) (on off : Level) : RawConfig where
  deviceCount := 7
  fadeEnabled := fade
  swaps := defaultSwaps
  localPerm := perm
  fadeOnDefault := on
  fadeOffDefault := off
  dcTable := defaultCorrection 112

theorem rawReference_wf (fade : Bool) (perm : List (Fin 16)) (on off : Level) (h : permOk perm = true) :
    (rawReference fade perm on off).wf = true := by
  simp only [permOk, Bool.and_eq_true] at h
  simp only [RawConfig.wf, Bool.and_eq_true]
  refine ⟨⟨⟨⟨⟨⟨?_, ?_⟩, ?_⟩, h.1.1⟩, h.1.2⟩, h.2⟩, ?_⟩
  · rfl
  · rfl
  · rfl
  · simp [RawConfig.dcTableComplete, RawConfig.channels, rawReference, defaultCorrection]

/-- The configuration of this hardware: the values of 00_scope.md R6, with every OPEN parameter an opaque constant
(notes/assumptions/2.md). -/
def reference : Config where
  toRawConfig := rawReference true openPerm fadeOnDefaultValue fadeOffDefaultValue
  ok := rawReference_wf _ _ _ _ permOk_openPerm

/-- The reference test configuration of 00_scope.md R9, which the spec's vectors use: LOCAL_PERM the identity,
FADE_ENABLED as the vector says. The vectors never rely on the default rates, which are arguments here. -/
def vectors (fade : Bool) (on off : Level) : Config where
  toRawConfig := rawReference fade identityPerm on off
  ok := rawReference_wf _ _ _ _ permOk_identityPerm

end Config

end Sys2Proof
end

