-- ==== Sys2Proof/Machine/State.lean ====
section
/-! DEFINITION. The architectural state (10_state.md R32) as plain data, paired with the block's configuration and the
deliveries still to come on its two input ports; reset; and the reasons a step can stop. -/

namespace Sys2Proof.Machine

/-- One event on the signal port (10_state.md R35). -/
inductive OutEvent
  /-- `Blank(v)`: BLANK_PIN takes v, and 1 disables all LED outputs. -/
  | blank (v : Bool)
  /-- `Mode(v)`: VPRG_PIN takes v, and 1 selects dot-correction programming. -/
  | mode (v : Bool)
  /-- `Bit(b)`: SIN takes b, then one SCLK pulse. -/
  | bit (b : Bool)
  /-- One XLAT pulse. -/
  | latch
  /-- SIN takes 0, then one SCLK pulse: the extra pulse of 45_init.md R276. -/
  | extraClock
  deriving DecidableEq, Repr

/-- One delivery on an input port (10_state.md R34, 60_exceptions.md R320). -/
inductive PortEvent
  /-- The host's turn: one word on the command port. -/
  | command (w : Word)
  /-- The timing source's turn: one word on the tick port. -/
  | tick (w : Word)
  deriving DecidableEq, Repr

/-- A grayscale buffer, WB or TB (20_memory.md R70): its bytes that are not 0x00, at strictly rising addresses.
A byte that is not listed is 0x00, the reset contents (10_state.md R60). -/
abbrev Memory := List Host.Cell

/-- The state of 10_state.md R32, with two fields of the model's own: `cfg`, the parameters the block was built with
(notes/assumptions/1.md), and `inputs`, the deliveries to come (notes/assumptions/3.md). -/
structure State where
  /-- The parameters of 00_scope.md R6; no step changes them. -/
  cfg : Config
  /-- WB (10_state.md R38). -/
  wb : Memory
  /-- TB (10_state.md R39). -/
  tb : Memory
  /-- PENDING (10_state.md R40). -/
  pending : Bool
  /-- AWAIT_LATCH (10_state.md R41). -/
  awaitLatch : Bool
  /-- TARGET, by logical channel (10_state.md R42). -/
  target : List Level
  /-- ACTUAL, by logical channel (10_state.md R42). -/
  actual : List Level
  /-- FADE_ON (10_state.md R44). -/
  fadeOn : Level
  /-- FADE_OFF (10_state.md R44). -/
  fadeOff : Level
  /-- ARMED (10_state.md R45). -/
  armed : Bool
  /-- FAULT_CAUSE (10_state.md R47). -/
  faultCause : BitVec 4
  /-- BLANK_PIN (10_state.md R36). -/
  blankPin : Bool
  /-- VPRG_PIN (10_state.md R36). -/
  vprgPin : Bool
  /-- OUT, oldest event first (10_state.md R35). -/
  out : List OutEvent
  /-- RESP, oldest bit first (10_state.md R46). -/
  resp : List Bool
  /-- What the two input ports will deliver, next first (20_memory.md R80, 60_exceptions.md R321). -/
  inputs : List PortEvent
  deriving DecidableEq, Repr

/-- The reasons to stop with a fault: none. "There is no fatal-error path" (60_exceptions.md R300): a misused command
is ignored and recorded, which is a next state (notes/assumptions/11.md). -/
inductive Fault
  deriving DecidableEq, Repr

/-- The reasons to refuse. -/
inductive Refusal
  /-- An operation that has no meaning yet, by its mnemonic. Raised by `exec` only, where an arm says so. Safe. -/
  | notModelled (mnemonic : String)
  /-- A TICK asked for while ARMED = 0: "then there is no TICK step at all" (60_exceptions.md R310).
  Raised by `execTick`; `step` never asks for it. Safe. -/
  | tickSourceDisabled
  /-- A tick-port word other than TICK's: it "cannot occur", "Refuse it in a model of the environment"
  (93_implementation_defined.md part 3). Raised by `step`. Safe. -/
  | foreignTickWord
  deriving DecidableEq, Repr

/-- The state after reset of a block built with the configuration `c` (10_state.md R60, 70_reset_and_hazards.md R340),
before anything is delivered to it. -/
def State.resetWith (c : Config) : State where
  cfg := c
  wb := []
  tb := []
  pending := false
  awaitLatch := false
  target := List.replicate c.channels 0#12
  actual := List.replicate c.channels 0#12
  fadeOn := c.fadeOnDefault
  fadeOff := c.fadeOffDefault
  armed := false
  faultCause := 0#4
  blankPin := true
  vprgPin := false
  out := []
  resp := []
  inputs := []

/-- This hardware right after reset (10_state.md R60), with the parameters of 00_scope.md R6. -/
def State.reset : State := State.resetWith Config.reference

end Sys2Proof.Machine
end

