-- ==== Sys2Proof/Machine/Flags.lean ====
section
/-! DEFINITION. What is computed for a flag: FAULT_CAUSE's value (60_exceptions.md R301, R304) and the answer of a
CoordinatorUpdate from PENDING (42_coordinator.md R190). PENDING, AWAIT_LATCH and ARMED are otherwise set and cleared as
constants, by the operations that R32's table names as their writers. -/

namespace Sys2Proof.Machine

/-- The code of a fault (60_exceptions.md R301). -/
def faultNumber (c : FaultCode) : BitVec 4 :=
  match c with
  | .illegalCommand => 1#4
  | .reservedBits => 2#4
  | .notInitialized => 3#4
  | .reinit => 4#4

/-- FAULT_CAUSE after a fault: the first fault since reset is kept (60_exceptions.md R304). -/
def recordedCause (cause : BitVec 4) (c : FaultCode) : BitVec 4 := if cause = 0#4 then faultNumber c else cause

/-- A CoordinatorUpdate is accepted when PENDING = 0; its answer is that bit (42_coordinator.md R190). -/
def acceptsUpdate (pending : Bool) : Bool := !pending

end Sys2Proof.Machine
end

