-- ==== Sys2Proof/Machine/Operands.lean ====
section
/-! DEFINITION. The operand forms: a logical channel and its physical position, a signed brightness, a rate
(30_encoding.md R112–R114), and the channel address mapper (40_mapper.md). -/

namespace Sys2Proof.Machine

/-- `clamp(x, lo, hi)` on integers (00_scope.md R11). -/
def clampInt (x lo hi : Int) : Int := min (max x lo) hi

/-- An integer as a 12-bit register holds it; every rule that writes one gives a value in [0, 4095]
(00_scope.md R11). -/
def levelOfInt (x : Int) : Level := BitVec.ofInt 12 x

/-- ClampValue (41_packer.md R166). -/
def clampValue (s : Int) : Level := levelOfInt (clampInt s 0 4095)

/-- SETB's brightness operand: two's complement, clamped (30_encoding.md R112). -/
def brightnessOperand (val : BitVec 16) : Level := clampValue val.toInt

/-- SETF's operands are used unchanged (30_encoding.md R113). -/
def rateOperand (rate : BitVec 12) : Level := rate

/-- The clamp of a channel to the last logical channel, T − 1 (40_mapper.md R141). -/
def clampChannel (c : Config) (x : Nat) : Nat := min x (c.channels - 1)

/-- SETB's channel operand: unsigned, clamped (30_encoding.md R112). -/
def channelOperand (c : Config) (ch : BitVec 12) : Nat := clampChannel c ch.toNat

/-- One wiring correction (40_mapper.md R142). -/
def swapPair (x : Nat) (p : Nat × Nat) : Nat := if x = p.1 then p.2 else if x = p.2 then p.1 else x

/-- Swap: the pairs of SWAPS one after another (40_mapper.md R142). -/
def swapStage (c : Config) (x : Nat) : Nat := c.swaps.foldl swapPair x

/-- LOCAL_PERM[j] (40_mapper.md R144). -/
def localPin (c : Config) (j : Nat) : Nat := (c.localPerm.getD j 0).val

/-- Split, local remap and recombine (40_mapper.md R145). -/
def remapStage (c : Config) (x : Nat) : Nat := localPin c (x % 16) + 16 * (x / 16)

/-- Chain reversal (40_mapper.md R146). -/
def reverseStage (c : Config) (p : Nat) : Nat := c.channels - 1 - p

/-- Map: the physical position of a channel (40_mapper.md R140). -/
def mapChannel (c : Config) (x : Nat) : Nat := reverseStage c (remapStage c (swapStage c (clampChannel c x)))

/-- The logical channel l with Map(l) = p, searched for in ascending order; there is exactly one below T for each
p below T (40_mapper.md R148, 45_init.md R274). -/
def logicalAt (c : Config) (p : Nat) : Nat :=
  ((List.range c.channels).find? fun l => mapChannel c l == p).getD 0

end Sys2Proof.Machine
end

