-- ==== Sys2Proof/Machine/Ops.lean ====
section
/-! DEFINITION. The shared operations: buffer bytes (20_memory.md), the packer (41_packer.md R160–R163), serial bit
order (R86, R216), the signal and response ports (10_state.md R34–R36), the fade registers, and the recording of a fault
(60_exceptions.md R304), which is all that takes the place of an exception entry here. There is no return from it,
because there is no handler (R300, R308). -/

namespace Sys2Proof.Machine

/-! ### Buffer bytes -/

/-- The byte at address `k`; one that is not listed is 0x00 (10_state.md R60). -/
def Memory.read (m : Memory) (k : Nat) : Byte :=
  match m with
  | [] => 0#8
  | (a, v) :: rest => if a = k then v else Memory.read rest k

/-- Write the byte at address `k`, keeping addresses rising and listing no 0x00. -/
def Memory.write (m : Memory) (k : Nat) (b : Byte) : Memory :=
  match m with
  | [] => if b = 0#8 then [] else [(k, b)]
  | (a, v) :: rest =>
    if k < a then if b = 0#8 then (a, v) :: rest else (k, b) :: (a, v) :: rest
    else if k = a then if b = 0#8 then rest else (k, b) :: rest
    else (a, v) :: Memory.write rest k b

/-- Canonical from address `lo`: addresses rise strictly from `lo`, lie below `bytes`, and no listed byte is 0x00. -/
def Memory.wfFrom (bytes lo : Nat) (m : Memory) : Bool :=
  match m with
  | [] => true
  | (a, v) :: rest => decide (lo ≤ a) && decide (a < bytes) && decide (v ≠ 0#8) && Memory.wfFrom bytes (a + 1) rest

/-- The canonical form of a buffer of `bytes` bytes, addresses 0 … bytes − 1 (20_memory.md R70). -/
def Memory.wf (bytes : Nat) (m : Memory) : Bool := Memory.wfFrom bytes 0 m

/-! ### The packer -/

/-- The first of the two bytes that hold physical channel `i` (41_packer.md R160). -/
def packBase (i : Nat) : Nat := 3 * i / 2

/-- Pack: write channel `i`'s 12 bits and keep the neighbour's nibble (41_packer.md R160–R162). -/
def pack (x : Memory) (i : Nat) (v : Level) : Memory :=
  if i % 2 = 0 then
    (x.write (packBase i) (v.extractLsb' 4 8)).write (packBase i + 1)
      (v.extractLsb' 0 4 ++ (x.read (packBase i + 1)).extractLsb' 0 4)
  else
    (x.write (packBase i) ((x.read (packBase i)).extractLsb' 4 4 ++ v.extractLsb' 8 4)).write (packBase i + 1)
      (v.extractLsb' 0 8)

/-- Unpack: read channel `i`'s 12 bits (41_packer.md R163). No operation of the block uses it. -/
def unpack (x : Memory) (i : Nat) : Level :=
  if i % 2 = 0 then x.read (packBase i) ++ (x.read (packBase i + 1)).extractLsb' 4 4
  else (x.read (packBase i)).extractLsb' 0 4 ++ x.read (packBase i + 1)

/-! ### Serial bit order -/

/-- The bits of a value, most significant first (00_scope.md R10). -/
def msbFirst {n : Nat} (v : BitVec n) : List Bool := (List.range n).map v.getMsbD

/-- GSStream(X): bytes in ascending address order, each most significant bit first (20_memory.md R86). -/
def gsStream (bytes : Nat) (x : Memory) : List Bool := (List.range bytes).flatMap fun k => msbFirst (x.read k)

/-- DCStream: physical channels in order, six bits each, most significant first (45_init.md R274). -/
def dcStream (c : Config) : List Bool :=
  (List.range c.channels).flatMap fun p => msbFirst (c.dcTable.getD (logicalAt c p) 0#6)

/-! ### The fade registers -/

/-- TARGET[l] or ACTUAL[l] (10_state.md R42). -/
def levelAt (xs : List Level) (l : Nat) : Level := xs.getD l 0#12

/-! ### The signal port and the response port -/

/-- Append events to OUT (00_scope.md R12). The pin levels follow `Blank` and `Mode` events, so those two are driven
by `driveBlank` and `driveMode`. -/
def State.emit (s : State) (es : List OutEvent) : State := { s with out := s.out ++ es }

/-- `emit(Blank(v)); BLANK_PIN <- v` (10_state.md R36). -/
def State.driveBlank (s : State) (v : Bool) : State := { s with out := s.out ++ [.blank v], blankPin := v }

/-- `emit(Mode(v)); VPRG_PIN <- v` (10_state.md R36). -/
def State.driveMode (s : State) (v : Bool) : State := { s with out := s.out ++ [.mode v], vprgPin := v }

/-- Shift bits out, one `Bit` event each (10_state.md R35, 43_output_handler.md R216). -/
def State.shiftBits (s : State) (bs : List Bool) : State := s.emit (bs.map .bit)

/-- `respond(b)`: append a bit to RESP (10_state.md R46). -/
def State.respond (s : State) (b : Bool) : State := { s with resp := s.resp ++ [b] }

/-! ### Recording a fault -/

/-- Record a fault and end the command: an opcode-4 word first answers 0, then FAULT_CAUSE takes the code if it was 0;
nothing else changes (60_exceptions.md R304, R307). `answers` says whether the word's opcode is 0x4. -/
def State.raiseFault (s : State) (c : FaultCode) (answers : Bool) : State :=
  { s with
    faultCause := recordedCause s.faultCause c
    resp := if answers then s.resp ++ [false] else s.resp }

end Sys2Proof.Machine
end

