-- ==== Sys2Proof/Machine/Init.lean ====
section
/-! DEFINITION. Device initialization, INIT (45_init.md R270–R279). -/

namespace Sys2Proof.Machine

/-- (a) Blank, enter dot-correction mode, shift and latch the dot correction, leave the mode (R272, R273). -/
def writeDotCorrection (s : State) : State :=
  ((((s.driveBlank true).driveMode true).shiftBits (dcStream s.cfg)).emit [.latch]).driveMode false

/-- (b) Shift and latch a frame of zeros, then one extra clock pulse (R275, R276). -/
def seedGrayscale (s : State) : State :=
  (s.shiftBits (List.replicate s.cfg.frameBits false)).emit [.latch, .extraClock]

/-- (c) Enable the timing source (R277). -/
def arm (s : State) : State := { s with armed := true }

/-- INIT (R270). -/
def execInit (s : State) : Host.Outcome State Fault Refusal :=
  if s.armed then .next (s.raiseFault .reinit false)
  else .next (arm (seedGrayscale (writeDotCorrection s)))

end Sys2Proof.Machine
end

