-- ==== Sys2Proof/Machine/Coordinator.lean ====
section
/-! DEFINITION. CoordinatorUpdate and REQ (42_coordinator.md R190–R196). -/

namespace Sys2Proof.Machine

/-- The copy of R190, one byte after another: `for k = 0 .. B − 1: TB[k] <- WB[k]`. -/
def copyBytes (bytes : Nat) (src dst : Memory) : Memory :=
  (List.range bytes).foldl (fun m k => m.write k (src.read k)) dst

/-- CoordinatorUpdate where it is accepted: "TB = WB (all B bytes) and PENDING = 1" (42_coordinator.md R192). The whole
buffer is taken at once; on buffers of canonical form that is what `copyBytes` gives (notes/assumptions/8.md). -/
def queueFrame (s : State) : State := { s with tb := s.wb, pending := true }

/-- CoordinatorUpdate (42_coordinator.md R190): the state after it, and its answer. -/
def coordinatorUpdate (s : State) : State × Bool :=
  if acceptsUpdate s.pending then (queueFrame s, true) else (s, false)

/-- REQ with no reserved bit set (42_coordinator.md R193). -/
def execReq (s : State) : Host.Outcome State Fault Refusal :=
  if s.armed = false then .next (s.raiseFault .notInitialized true)
  else .next ((coordinatorUpdate s).1.respond (coordinatorUpdate s).2)

end Sys2Proof.Machine
end

