-- ==== Sys2Proof/Machine/Fade.lean ====
section
/-! DEFINITION. The fade engine and SETF (44_fade.md). -/

namespace Sys2Proof.Machine

/-- The value a channel moves to in one step, where ACTUAL and TARGET differ: up by FADE_ON and not past the target
(R242), or down by FADE_OFF and not past it (R243), then the defensive clamp (R244). Integer arithmetic, no wrap. -/
def fadeMove (on off a t : Level) : Level :=
  let n : Int :=
    if t.toNat ≥ a.toNat then min ((a.toNat : Int) + on.toNat) t.toNat else max ((a.toNat : Int) - off.toNat) t.toNat
  levelOfInt (clampInt n 0 4095)

/-- ACTUAL[l] after one fade step (44_fade.md R240–R244). -/
def fadeLevel (on off a t : Level) : Level := if a ≠ t then fadeMove on off a t else a

/-- The writes for one changed channel: ACTUAL and the write buffer (44_fade.md R247). -/
def writeFaded (s : State) (l : Nat) (n : Level) : State :=
  { s with actual := s.actual.set l n, wb := pack s.wb (mapChannel s.cfg l) n }

/-- One iteration of the loop of R240. The Bool is `changed` (R248). -/
def fadeChannel (p : State × Bool) (l : Nat) : State × Bool :=
  let a := levelAt p.1.actual l
  let n := fadeLevel p.1.fadeOn p.1.fadeOff a (levelAt p.1.target l)
  if n ≠ a then (writeFaded p.1 l n, true) else p

/-- The loop of R240 over the channels in the order given. -/
def fadeLoop (order : List Nat) (s : State) : State × Bool := order.foldl fadeChannel (s, false)

/-- All channels, in ascending order (44_fade.md R240). -/
def fadeAll (s : State) : State × Bool := fadeLoop (List.range s.cfg.channels) s

/-- FadeStep (44_fade.md R240): if any channel changed, one CoordinatorUpdate, its answer discarded (R249). -/
def fadeStep (s : State) : State :=
  if (fadeAll s).2 then (coordinatorUpdate (fadeAll s).1).1 else (fadeAll s).1

/-- SETF where it is accepted (44_fade.md R252). -/
def setRates (s : State) (on off : Level) : State := { s with fadeOn := on, fadeOff := off }

/-- SETF on, off (44_fade.md R252, R253). -/
def execSetf (on off : BitVec 12) (s : State) : Host.Outcome State Fault Refusal :=
  if s.armed = false then .next (s.raiseFault .notInitialized false)
  else .next (setRates s (rateOperand on) (rateOperand off))

end Sys2Proof.Machine
end

