-- ==== Sys2Proof/Machine/OutputHandler.lean ====
section
/-! DEFINITION. The Periodic Output Handler, TICK (43_output_handler.md R210–R220). -/

namespace Sys2Proof.Machine

/-- Step 2: one Latch where a shifted frame awaits it (R212). -/
def latchStep (s : State) : State :=
  if s.awaitLatch then { s.emit [.latch] with awaitLatch := false } else s

/-- Steps 1 to 3: blank, latch, unblank (R211–R213). -/
def blankLatchUnblank (s : State) : State := (latchStep (s.driveBlank true)).driveBlank false

/-- Step 4: the fade step, in the fade variant only (R214). -/
def fadeIfEnabled (s : State) : State := if s.cfg.fadeEnabled then fadeStep s else s

/-- Step 5: where a frame is pending, shift all of TB out, bytes in ascending order (R215, R216). -/
def shiftStep (s : State) : State :=
  if s.pending then
    { s.shiftBits (gsStream s.cfg.bufferBytes s.tb) with
      pending := false
      awaitLatch := true }
  else s

/-- The five steps of the handler, in order (R210). -/
def outputHandler (s : State) : State := shiftStep (fadeIfEnabled (blankLatchUnblank s))

/-- TICK (R210), which exists only while ARMED = 1 (60_exceptions.md R310, notes/assumptions/4.md). -/
def execTick (s : State) : Host.Outcome State Fault Refusal :=
  if s.armed then .next (outputHandler s) else .refused .tickSourceDisabled

end Sys2Proof.Machine
end

