-- ==== Sys2Proof/Machine/Packer.lean ====
section
/-! DEFINITION. SETB (41_packer.md R167). -/

namespace Sys2Proof.Machine

/-- SETB where it is accepted, in the fade variant: TARGET only. -/
def setTarget (s : State) (l : Nat) (v : Level) : State := { s with target := s.target.set l v }

/-- SETB where it is accepted, in the direct variant: the write buffer only, at the channel's physical position. -/
def packChannel (s : State) (x : Nat) (v : Level) : State := { s with wb := pack s.wb (mapChannel s.cfg x) v }

/-- SETB ch, val (41_packer.md R167). -/
def execSetb (ch : BitVec 12) (val : BitVec 16) (s : State) : Host.Outcome State Fault Refusal :=
  if s.armed = false then .next (s.raiseFault .notInitialized false)
  else if s.cfg.fadeEnabled then .next (setTarget s (channelOperand s.cfg ch) (brightnessOperand val))
  else .next (packChannel s ch.toNat (brightnessOperand val))

end Sys2Proof.Machine
end

