-- ==== Sys2Proof/Machine/Dispatch.lean ====
section
/-! DEFINITION. One arm per operation. -/

namespace Sys2Proof.Machine

/-- The effect of an operation that a port has delivered. -/
def exec (i : Instr) (s : State) : Host.Outcome State Fault Refusal :=
  match i with
  | .init => Sys2Proof.Machine.execInit s
  | .setb ch val => Sys2Proof.Machine.execSetb ch val s
  | .setf on off => Sys2Proof.Machine.execSetf on off s
  | .req => Sys2Proof.Machine.execReq s
  | .tick => Sys2Proof.Machine.execTick s

end Sys2Proof.Machine
end

