-- ==== Sys2Proof/Machine/Ports.lean ====
section
/-! DEFINITION. The two input ports: taking the next delivery, what a word does that is no operation, and what a turn of
the timing source does (30_encoding.md R100, R109, R111; 60_exceptions.md R304, R310, R320–R322). -/

namespace Sys2Proof.Machine

/-- The state once a delivery has been taken from the front of `inputs`. -/
def State.take (s : State) (rest : List PortEvent) : State := { s with inputs := rest }

/-- Put a delivery in front of the ones to come. -/
def State.deliver (s : State) (e : PortEvent) : State := { s with inputs := e :: s.inputs }

/-- A word answers on the response port exactly when its opcode is 0x4 (30_encoding.md R104). -/
def wordAnswers (w : Word) : Bool := decide (opcodeField w = 0x4#4)

/-- A command-port word (30_encoding.md R111): an operation is executed; any other word records its fault and is
ignored (R115, R116, 60_exceptions.md R304). -/
def commandTurn (w : Word) (s : State) : Host.Outcome State Fault Refusal :=
  match decodeCommand w with
  | .ok i => exec i s
  | .bad c => .next (s.raiseFault c (wordAnswers w))

/-- A turn of the timing source (60_exceptions.md R310): while ARMED = 1 it is a TICK, and while ARMED = 0 the source is
disabled and there is no TICK step, so the turn passes (notes/assumptions/4.md). No other word can stand on the tick
port (93_implementation_defined.md part 3). -/
def tickTurn (w : Word) (s : State) : Host.Outcome State Fault Refusal :=
  match decodeTick w with
  | some i => if s.armed then exec i s else .next s
  | none => .refused .foreignTickWord

/-- The reset input, asserted between two steps (70_reset_and_hazards.md R340): every state element takes its reset
value, the traces included, and nothing is emitted. It is no delivery of either port, so no `step` does it. The
parameters stay what the block was built with, DC_TABLE among them: whether a reset may bring others, as a host that
needs different attenuation might want (R358), the spec leaves open, and this is the model's choice. So is that the
deliveries still to come, which are no element of the spec's state, survive the reset: the agents outside go on
(notes/assumptions/17.md). -/
def State.powerUp (s : State) : State := { State.resetWith s.cfg with inputs := s.inputs }

/-- The port a table word is delivered on: the tick port for TICK's word, the command port for the rest
(30_encoding.md R109). -/
def deliveryOf (w : Word) : PortEvent := if w = tickWord then .tick w else .command w

/-- Delivering a word so that it runs at the very next step: in front of `inputs`, and, for TICK, with the timing source
enabled, which its port needs (60_exceptions.md R310, notes/assumptions/6.md). -/
def State.deliverWord (s : State) (w : Word) : State :=
  if w = tickWord then { s.deliver (deliveryOf w) with armed := true } else s.deliver (deliveryOf w)

end Sys2Proof.Machine
end

