-- ==== Sys2Proof/Machine/Step.lean ====
section
/-! DEFINITION. One step: the next delivery on the command port or the tick port, as one atomic transition
(20_memory.md R80). Where neither port has a delivery, nothing happens (70_reset_and_hazards.md R341). -/

namespace Sys2Proof.Machine

/-- One step of the block. -/
def step (s : State) : Host.Outcome State Fault Refusal :=
  match s.inputs with
  | [] => .next s
  | .command w :: rest => commandTurn w (s.take rest)
  | .tick w :: rest => tickTurn w (s.take rest)

/-- `s` with a word of the opcode table as the next delivery (notes/assumptions/6.md). A word is 32 bits
(30_encoding.md R101), so `nbits` has nothing to add to `w`. -/
def State.withFetchWord (s : State) (_nbits w : Nat) : State := s.deliverWord (BitVec.ofNat 32 w)

end Sys2Proof.Machine
end

