-- ==== Sys2Proof/Machine/Assembler.lean ====
section
/-! DEFINITION. The host-side source language (30_encoding.md R120–R124): its lines, read from text, the operand ranges
that are refused (R121), and the words or deliveries a line stands for. The details of the text that R120 leaves open are in
notes/assumptions/14.md. -/

namespace Sys2Proof.Machine

/-- A source operation, its operands as written (30_encoding.md R120, R122–R124). -/
inductive SourceOp
  | init
  | setb (ch val : Int)
  | setf (on off : Int)
  | req
  /-- `k` consecutive events of the timing source, `TICK` or `TICK×k` (R124). -/
  | tick (k : Nat)
  /-- The host's loop of R122. -/
  | poll
  /-- T SETB words (R123). -/
  | setall (val : Int)
  deriving DecidableEq, Repr

/-- What the scenario does next: a delivery on a port, or the host's POLL loop, which no word encodes (R122). -/
inductive HostAction
  | deliver (e : PortEvent)
  | pollLoop
  deriving DecidableEq, Repr

/-- The operation of a source line on the command port, where its operands are in range: "An assembler refuses any
other value rather than truncating it" (R121). -/
def SourceOp.instr? (op : SourceOp) : Option Instr :=
  match op with
  | .init => some .init
  | .setb ch val =>
    if wellFormedUnsigned ch && wellFormedValue val then some (.setb (BitVec.ofInt 12 ch) (BitVec.ofInt 16 val)) else none
  | .setf on off =>
    if wellFormedUnsigned on && wellFormedUnsigned off then some (.setf (BitVec.ofInt 12 on) (BitVec.ofInt 12 off))
    else none
  | .req => some .req
  | .tick _ => none
  | .poll => none
  | .setall _ => none

/-- The word of a source line (R120): a negative `val` as its 16-bit two's complement (R121). -/
def SourceOp.word? (op : SourceOp) : Option Word := op.instr?.map encode

/-- The deliveries and loops of a source line, `none` where an operand is refused (R120–R124). -/
def SourceOp.actions? (c : Config) (op : SourceOp) : Option (List HostAction) :=
  match op with
  | .tick k => some (List.replicate k (.deliver (.tick (encode .tick))))
  | .poll => some [.pollLoop]
  | .setall val =>
    if wellFormedValue val then
      some ((List.range c.channels).map fun l =>
        .deliver (.command (encode (.setb (BitVec.ofNat 12 l) (BitVec.ofInt 16 val)))))
    else none
  | .init => op.word?.map fun w => [.deliver (.command w)]
  | .setb _ _ => op.word?.map fun w => [.deliver (.command w)]
  | .setf _ _ => op.word?.map fun w => [.deliver (.command w)]
  | .req => op.word?.map fun w => [.deliver (.command w)]

/-- A whole source program, `none` where one line is refused. -/
def assemble (c : Config) (ops : List SourceOp) : Option (List HostAction) :=
  match ops with
  | [] => some []
  | op :: rest =>
    match op.actions? c, assemble c rest with
    | some a, some b => some (a ++ b)
    | _, _ => none

/-! ### Text of a line -/

/-- One hexadecimal digit. -/
def hexDigit? (ch : Char) : Option Nat :=
  let n := ch.toNat
  if 48 ≤ n ∧ n ≤ 57 then some (n - 48)
  else if 97 ≤ n ∧ n ≤ 102 then some (n - 87)
  else if 65 ≤ n ∧ n ≤ 70 then some (n - 55)
  else none

/-- A number's digits in a base, most significant first; `acc` is the value so far. -/
def digits? (base acc : Nat) (cs : List Char) : Option Nat :=
  match cs with
  | [] => some acc
  | ch :: rest =>
    match hexDigit? ch with
    | some d => if d < base then digits? base (base * acc + d) rest else none
    | none => none

/-- A decimal or `0x` hexadecimal natural number (R121). -/
def natural? (cs : List Char) : Option Nat :=
  match cs with
  | [] => none
  | '0' :: 'x' :: d :: ds => digits? 16 0 (d :: ds)
  | ds => digits? 10 0 ds

/-- A decimal or `0x` hexadecimal integer (R121). -/
def integer? (cs : List Char) : Option Int :=
  match cs with
  | '-' :: ds => (natural? ds).map fun n => -(n : Int)
  | ds => (natural? ds).map fun n => (n : Int)

/-- The text before the first `;` (R120). -/
def withoutComment (cs : List Char) : List Char := cs.takeWhile fun ch => ch ≠ ';'

/-- The tokens of a text: runs of other characters, and `,` and `:` each alone. `cur` is the run read so far. -/
def tokens (cur : List Char) (cs : List Char) : List (List Char) :=
  let close (rest : List (List Char)) : List (List Char) := if cur.isEmpty then rest else cur :: rest
  match cs with
  | [] => close []
  | ch :: rest =>
    if ch = ' ' ∨ ch = '\t' then close (tokens [] rest)
    else if ch = ',' ∨ ch = ':' then close ([ch] :: tokens [] rest)
    else tokens (cur ++ [ch]) rest

/-- `TICK×k` (R124). -/
def tickCount? (tok : List Char) : Option Nat :=
  match tok with
  | 'T' :: 'I' :: 'C' :: 'K' :: '×' :: ds => natural? ds
  | _ => none

/-- The operation of a line's tokens, in the syntax of R120, R122–R124. -/
def sourceOp? (toks : List (List Char)) : Option SourceOp :=
  match toks with
  | [op] =>
    if op = ['I', 'N', 'I', 'T'] then some .init
    else if op = ['R', 'E', 'Q'] then some .req
    else if op = ['T', 'I', 'C', 'K'] then some (.tick 1)
    else if op = ['P', 'O', 'L', 'L'] then some .poll
    else (tickCount? op).map .tick
  | [op, val] => if op = ['S', 'E', 'T', 'A', 'L', 'L'] then (integer? val).map .setall else none
  | [op, x, [','], y] =>
    match integer? x, integer? y with
    | some a, some b =>
      if op = ['S', 'E', 'T', 'B'] then some (.setb a b) else if op = ['S', 'E', 'T', 'F'] then some (.setf a b) else none
    | _, _ => none
  | _ => none

/-- A line: an optional label, and an optional operation (R120). -/
structure SourceLine where
  label : Option (List Char)
  op : Option SourceOp
  deriving DecidableEq, Repr

/-- Whether a token can be a label's `name`: any run of other characters, and so neither `,` nor `:`. R120 does not say
what a name may be, and this is the model's choice (notes/assumptions/14.md). -/
def isLabelName (tok : List Char) : Bool := decide (tok ≠ [',']) && decide (tok ≠ [':'])

/-- Read one line of a source program; `none` where it is not in the syntax of R120. What may stand as a label is
`isLabelName`. -/
def parseLine (text : List Char) : Option SourceLine :=
  match tokens [] (withoutComment text) with
  | [] => some ⟨none, none⟩
  | [name, [':']] => if isLabelName name then some ⟨some name, none⟩ else none
  | name :: [':'] :: rest => if isLabelName name then (sourceOp? rest).map fun op => ⟨some name, some op⟩ else none
  | rest => (sourceOp? rest).map fun op => ⟨none, some op⟩

end Sys2Proof.Machine
end

