-- ==== Sys2Proof/Machine/HostSide.lean ====
section
/-! DEFINITION. The two agents that drive the block (60_exceptions.md R320–R322), and the host as one that runs a source
program (30_encoding.md R122–R124). It reads nothing but the last response bit. -/

namespace Sys2Proof.Machine

/-- Which agent takes the next turn (60_exceptions.md R320). -/
inductive Agent
  /-- The next line of the scenario: a host word, a turn of POLL's loop, or a listed TICK (30_encoding.md R124). -/
  | host
  /-- The timing source, with a TICK that the scenario does not list. -/
  | timingSource
  deriving DecidableEq, Repr

/-- A block together with what is left of the scenario that drives it. -/
structure Session where
  block : State
  program : List HostAction
  deriving DecidableEq, Repr

/-- Go on with `f` where an outcome has a next value; stop as it stops otherwise. -/
def andThen {σ τ : Type} (o : Host.Outcome σ Fault Refusal) (f : σ → Host.Outcome τ Fault Refusal) :
    Host.Outcome τ Fault Refusal :=
  match o with
  | .next s => f s
  | .fault r => .fault r
  | .refused r => .refused r

/-- An agent takes its turn now: one step that delivers `e`, before the deliveries already to come. -/
def turn (e : PortEvent) (s : State) : Host.Outcome State Fault Refusal := step (s.deliver e)

/-- The host sends REQ; it may then read the bit this appended (60_exceptions.md R322). -/
def requestOnce (s : State) : Host.Outcome State Fault Refusal := turn (.command (encode .req)) s

/-- The last response bit, which the host reads after REQ (10_state.md R46). -/
def lastAnswer (s : State) : Bool := s.resp.getLast? = some true

/-- What is left of the program after one REQ of POLL's loop: `if last RESP bit = 0 then goto L` (30_encoding.md R122).
The loop is left only on a 1. -/
def afterPoll (s : State) (rest : List HostAction) : List HostAction :=
  if lastAnswer s then rest else .pollLoop :: rest

/-- The host's turn: the next line's delivery, or one REQ of POLL's loop; with no line left it sends nothing. -/
def Session.hostTurn (p : Session) : Host.Outcome Session Fault Refusal :=
  match p.program with
  | [] => .next p
  | .deliver e :: rest => andThen (turn e p.block) fun s => .next ⟨s, rest⟩
  | .pollLoop :: rest => andThen (requestOnce p.block) fun s => .next ⟨s, afterPoll s rest⟩

/-- The timing source's turn (60_exceptions.md R310). -/
def Session.tickTurn (p : Session) : Host.Outcome Session Fault Refusal :=
  andThen (turn (.tick (encode .tick)) p.block) fun s => .next ⟨s, p.program⟩

/-- The turn of an agent. -/
def Session.agentTurn (p : Session) (a : Agent) : Host.Outcome Session Fault Refusal :=
  match a with
  | .host => p.hostTurn
  | .timingSource => p.tickTurn

/-- The turns of a schedule, in any order the environment chooses (60_exceptions.md R321). POLL's loop has no bound of its
own: it goes round for as long as the schedule gives the host turns and the answer is 0 (notes/assumptions/15.md). -/
def Session.run (schedule : List Agent) (p : Session) : Host.Outcome Session Fault Refusal :=
  match schedule with
  | [] => .next p
  | a :: rest => andThen (p.agentTurn a) (Session.run rest)

end Sys2Proof.Machine
end

