-- ==== Sys2Proof/Machine/Chain.lean ====
section
/-! DEFINITION. The LED chip chain that the signal port drives (60_exceptions.md R312–R316): the block's ENVIRONMENT,
"not part of the block", read by no definition of the block. It says what the LEDs show for a given OUT
(notes/assumptions/10.md). -/

namespace Sys2Proof.Machine

/-- The chain: one grayscale shift register and one dot-correction shift register through all devices, with their
latches, and the levels of the two level pins (R312–R314). Bit 0 of a register is its far end. -/
structure Chain where
  /-- N (R312). -/
  devices : Nat
  /-- SR[0 .. 192N−1] (R313). -/
  gsShift : List Bool
  /-- GL (R314). -/
  gsLatch : List Bool
  /-- The dot-correction shift register (R314). -/
  dcShift : List Bool
  /-- The dot-correction latch (R314). -/
  dcLatch : List Bool
  /-- The level of BLANK (R314). -/
  blank : Bool
  /-- The level of VPRG (R313, R314). -/
  vprg : Bool
  deriving DecidableEq, Repr

/-- The registers have the chain's widths (R313, R314). What they hold at power-up is not stated, and any contents
will do. -/
def Chain.wf (h : Chain) : Bool :=
  decide (h.gsShift.length = 192 * h.devices) && decide (h.gsLatch.length = 192 * h.devices) &&
    decide (h.dcShift.length = 96 * h.devices) && decide (h.dcLatch.length = 96 * h.devices)

/-- One shift: `SR[k] <- SR[k+1]`, and the new bit enters at the block's end (R313). -/
def shiftIn (reg : List Bool) (b : Bool) : List Bool := reg.drop 1 ++ [b]

/-- One SCLK pulse with SIN = b: the register that VPRG selects shifts (R313, R314). -/
def Chain.clock (h : Chain) (b : Bool) : Chain :=
  if h.vprg then { h with dcShift := shiftIn h.dcShift b } else { h with gsShift := shiftIn h.gsShift b }

/-- One XLAT pulse: the register that VPRG selects is copied into its latch (R314). -/
def Chain.latchPulse (h : Chain) : Chain :=
  if h.vprg then { h with dcLatch := h.dcShift } else { h with gsLatch := h.gsShift }

/-- What one event of the signal port does to the chain (R35, R313, R314). -/
def Chain.observe (h : Chain) (e : OutEvent) : Chain :=
  match e with
  | .blank v => { h with blank := v }
  | .mode v => { h with vprg := v }
  | .bit b => h.clock b
  | .latch => h.latchPulse
  | .extraClock => h.clock false

/-- The chain after a trace of the signal port. -/
def Chain.watch (h : Chain) (es : List OutEvent) : Chain := es.foldl Chain.observe h

/-- Which 12-bit group of the stream ends up at output `o` of device `d` of `n`: stream bits 192m … 192m+191 sit in
device n−1−m, and the first-shifted group of a device drives output 15 (R313). -/
def chainGroup (n d o : Nat) : Nat := 16 * (n - 1 - d) + (15 - o)

/-- The number that bits spell, most significant first. -/
def natOfBits (bs : List Bool) : Nat := bs.foldl (fun a b => 2 * a + b.toNat) 0

/-- The latched grayscale value of output `o` of device `d` (R313, R314). -/
def Chain.grayscale (h : Chain) (d o : Nat) : Level :=
  BitVec.ofNat 12 (natOfBits ((h.gsLatch.drop (12 * chainGroup h.devices d o)).take 12))

/-- What output `o` of device `d` shows: off while BLANK is 1, whatever is latched (R314). -/
def Chain.shows (h : Chain) (d o : Nat) : Level := if h.blank then 0#12 else h.grayscale d o

end Sys2Proof.Machine
end

