-- ==== Sys2Proof/Safety.lean ====
section
/-! DEFINITION. What the spec says of every state between steps, in the terms the claims use: the form of the state, the
spec's whole-block invariants, and what a run leaves on the signal port. -/

namespace Sys2Proof.Machine

/-- The form of a state: both buffers canonical with addresses 0 … B−1 (20_memory.md R70), T fade registers of each
kind (10_state.md R42), and no fault code that R47 excludes. -/
def State.wf (s : State) : Bool :=
  Memory.wf s.cfg.bufferBytes s.wb && Memory.wf s.cfg.bufferBytes s.tb &&
    decide (s.target.length = s.cfg.channels) && decide (s.actual.length = s.cfg.channels) &&
    decide (s.faultCause.toNat ≤ 4)

/-- In the fade variant the write buffer holds ACTUAL, channel by channel (10_state.md R50). -/
abbrev State.mirrorsActual (s : State) : Prop :=
  s.cfg.fadeEnabled = true →
    ∀ l < s.cfg.channels, unpack s.wb (mapChannel s.cfg l) = levelAt s.actual l

/-- In the direct variant TARGET and ACTUAL stay 0 (10_state.md R42). -/
abbrev State.fadeUnused (s : State) : Prop :=
  s.cfg.fadeEnabled = false →
    s.target = List.replicate s.cfg.channels 0#12 ∧ s.actual = List.replicate s.cfg.channels 0#12

/-- Before INIT everything but FAULT_CAUSE and RESP is as reset left it (70_reset_and_hazards.md R341,
45_init.md R278). -/
abbrev State.quietBeforeInit (s : State) : Prop :=
  s.armed = false →
    s = { State.resetWith s.cfg with faultCause := s.faultCause, resp := s.resp, inputs := s.inputs }

/-- The level a trace leaves on BLANK_PIN: that of its last `Blank` event, or the reset level (10_state.md R36). -/
def blankLevel (es : List OutEvent) : Bool :=
  es.foldl (fun v e => match e with | .blank b => b | _ => v) true

/-- The level a trace leaves on VPRG_PIN: that of its last `Mode` event, or the reset level (10_state.md R36). -/
def modeLevel (es : List OutEvent) : Bool :=
  es.foldl (fun v e => match e with | .mode b => b | _ => v) false

/-- The level pins hold what the last `Blank` and `Mode` events gave them (10_state.md R36). -/
abbrev State.pinsFollowOut (s : State) : Prop := s.blankPin = blankLevel s.out ∧ s.vprgPin = modeLevel s.out

/-- Follow a trace with `k` `Bit` events counted since the last `Latch`: `none` once a `Latch` comes after another
number of them than `n` (43_output_handler.md R217). -/
def scanFrames (n k : Nat) (es : List OutEvent) : Option Nat :=
  match es with
  | [] => some k
  | .bit _ :: rest => scanFrames n (k + 1) rest
  | .latch :: rest => if k = n then scanFrames n 0 rest else none
  | .blank _ :: rest => scanFrames n k rest
  | .mode _ :: rest => scanFrames n k rest
  | .extraClock :: rest => scanFrames n k rest

/-- The number of events of an accepted INIT, 6 + 288 × N (45_init.md R279). -/
def initEventCount (c : Config) : Nat := 6 + 288 * c.deviceCount

/-- After INIT, every `Latch` commits exactly one whole frame of 192 × N bits, and the chain holds an unlatched one
exactly while AWAIT_LATCH = 1 (43_output_handler.md R217, 10_state.md R41). -/
abbrev State.latchesWholeFrames (s : State) : Prop :=
  s.armed = true →
    initEventCount s.cfg ≤ s.out.length ∧
      scanFrames s.cfg.frameBits 0 (s.out.drop (initEventCount s.cfg)) =
        some (if s.awaitLatch then s.cfg.frameBits else 0)

/-- What the chain shows for the state's trace, starting from a chain `h` with the pins at their reset levels. -/
def State.display (s : State) (h : Chain) : Chain := { h with blank := true, vprg := false }.watch s.out

/-- The outcome with FAULT_CAUSE left out of the state, for comparing runs that differ in it only
(60_exceptions.md R306). -/
def forgetFault (o : Host.Outcome State Fault Refusal) : Host.Outcome State Fault Refusal :=
  match o with
  | .next s => .next { s with faultCause := 0#4 }
  | .fault r => .fault r
  | .refused r => .refused r

/-- The host has not misused the interface so far: the premise of a claim about a run (60_exceptions.md R306). -/
abbrev State.hostBehaved (s : State) : Prop := s.faultCause = 0#4

/-- The states a block built with `c` can be in: those that steps lead to from reset, whatever the two ports deliver
(10_state.md R61, 60_exceptions.md R321), with the reset input asserted at any time between steps
(70_reset_and_hazards.md R340). -/
inductive Reachable (c : Config) : State → Prop
  | reset (inputs : List PortEvent) : Reachable c { State.resetWith c with inputs := inputs }
  | step {s t : State} (h : Reachable c s) (e : step s = .next t) : Reachable c t
  | powerUp {s : State} (h : Reachable c s) : Reachable c s.powerUp

end Sys2Proof.Machine
end

