-- ==== Sys2Proof/Certificates/Slice0/Obligations.lean ====
section
/-! DEFINITION. The statements for the provers, in the order of the spec's files: the words, the faults, the mapper, the
packer, each operation, the invariants of the whole block, and what the chip chain shows. -/

open Sys2Proof Sys2Proof.Machine

/-! ### Words (30_encoding.md) -/

/-- Words written out from the spec's own encodings (95_test_vectors.md 2.1, 2.4, 2.8; 30_encoding.md R105–R109). -/
def Obligations.SampleWordsDecode : Prop :=
  decodeCommand 0x10000000#32 = .ok .init ∧
  decodeCommand 0x206FFFFB#32 = .ok (.setb 111#12 0xFFFB#16) ∧
  decodeCommand 0x3001E01E#32 = .ok (.setf 30#12 30#12) ∧
  decodeCommand 0x40000000#32 = .ok .req ∧
  decodeTick 0x70000000#32 = some .tick ∧
  decodeCommand 0x70000000#32 = .bad .illegalCommand ∧
  decodeCommand 0x31000000#32 = .bad .reservedBits

/-- Every operation with every operand value is what its port's decoder reads from its word (30_encoding.md R103–R109). -/
def Obligations.DecodeInvertsEncode : Prop :=
  ∀ i : Instr,
    (Instr.wellFormed .command i = true → decodeCommand (encode i) = .ok i) ∧
    (Instr.wellFormed .tick i = true → decodeTick (encode i) = some i)

/-- No two words stand for one operation: a word that decodes is the encoding of what it decodes to
(30_encoding.md R101, R116, R117). -/
def Obligations.EncodeInvertsDecode : Prop :=
  ∀ w : Word,
    (∀ i, decodeCommand w = .ok i → encode i = w ∧ Instr.wellFormed .command i = true) ∧
    (∀ i, decodeTick w = some i → encode i = w ∧ Instr.wellFormed .tick i = true)

/-- The decoder of R111, with the fields read off the word as a number: opcode, then reserved bits, then operands. -/
def Obligations.DecodeReadsFields : Prop :=
  ∀ w : Word,
    decodeCommand w =
      (if w.toNat / 2 ^ 28 = 1 then (if w.toNat % 2 ^ 28 ≠ 0 then .bad .reservedBits else .ok .init)
       else if w.toNat / 2 ^ 28 = 2 then
        .ok (.setb (BitVec.ofNat 12 (w.toNat / 2 ^ 16 % 2 ^ 12)) (BitVec.ofNat 16 (w.toNat % 2 ^ 16)))
       else if w.toNat / 2 ^ 28 = 3 then
        (if w.toNat / 2 ^ 24 % 16 ≠ 0 then .bad .reservedBits
         else .ok (.setf (BitVec.ofNat 12 (w.toNat / 2 ^ 12 % 2 ^ 12)) (BitVec.ofNat 12 (w.toNat % 2 ^ 12))))
       else if w.toNat / 2 ^ 28 = 4 then (if w.toNat % 2 ^ 28 ≠ 0 then .bad .reservedBits else .ok .req)
       else .bad .illegalCommand)

/-- An assembler accepts exactly the operands in range, keeps their values, and refuses the rest (30_encoding.md R121). -/
def Obligations.AssemblerKeepsOperands : Prop :=
  (∀ ch val : Int,
    (0 ≤ ch ∧ ch ≤ 4095 ∧ -32768 ≤ val ∧ val ≤ 32767 →
      ∃ c v, (SourceOp.setb ch val).word? = some (encode (.setb c v)) ∧ (c.toNat : Int) = ch ∧ v.toInt = val) ∧
    (¬(0 ≤ ch ∧ ch ≤ 4095 ∧ -32768 ≤ val ∧ val ≤ 32767) → (SourceOp.setb ch val).word? = none)) ∧
  (∀ on off : Int,
    (0 ≤ on ∧ on ≤ 4095 ∧ 0 ≤ off ∧ off ≤ 4095 →
      ∃ a b, (SourceOp.setf on off).word? = some (encode (.setf a b)) ∧ (a.toNat : Int) = on ∧ (b.toNat : Int) = off) ∧
    (¬(0 ≤ on ∧ on ≤ 4095 ∧ 0 ≤ off ∧ off ≤ 4095) → (SourceOp.setf on off).word? = none))

/-! ### Steps (20_memory.md R80, 60_exceptions.md R310, R320–R322) -/

/-- A command-port word that decodes to an operation runs exactly that operation, with the word taken from the port. -/
def Obligations.StepRunsCommand : Prop :=
  ∀ s w rest i, s.inputs = .command w :: rest → decodeCommand w = .ok i →
    step s = exec i { s with inputs := rest }

/-- The timing source: while ARMED = 1 its word runs TICK. While ARMED = 0 there is no TICK step and the turn passes,
a tick-port word that is not TICK's is refused, and with nothing delivered nothing happens: the model's choices
of notes/assumptions/4.md, 5.md and 3.md. -/
def Obligations.StepRunsTick : Prop :=
  (∀ s rest, s.inputs = .tick 0x70000000#32 :: rest → s.armed = true → step s = exec .tick { s with inputs := rest }) ∧
  (∀ s rest, s.inputs = .tick 0x70000000#32 :: rest → s.armed = false → step s = .next { s with inputs := rest }) ∧
  (∀ s w rest, s.inputs = .tick w :: rest → w ≠ 0x70000000#32 → step s = .refused .foreignTickWord) ∧
  (∀ s, s.inputs = [] → step s = .next s)

/-- No command, no operand, no order of deliveries and no fault stops the block: every step answers a next state unless
the tick port carries a word that "cannot occur" (60_exceptions.md section 1; 93_implementation_defined.md part 3). Two
kinds of step that this covers are the model's choices: a tick word while ARMED = 0, whose turn passes
(notes/assumptions/4.md), and a step with nothing delivered, which changes nothing (notes/assumptions/3.md). -/
def Obligations.BlockNeverHalts : Prop :=
  ∀ s, (∀ w rest, s.inputs = .tick w :: rest → w = 0x70000000#32) → ∃ t, step s = .next t

/-! ### Faults (60_exceptions.md R300–R308) -/

/-- An illegal word records ILLEGAL_COMMAND, where nothing is recorded yet, and changes nothing else
(30_encoding.md R115). -/
def Obligations.IllegalWordIgnored : Prop :=
  ∀ s w rest, s.inputs = .command w :: rest →
    (w.toNat / 2 ^ 28 = 0 ∨ 5 ≤ w.toNat / 2 ^ 28) →
    step s = .next { s with
      inputs := rest
      faultCause := if s.faultCause = 0#4 then 1#4 else s.faultCause }

/-- A reserved-bit violation records RESERVED_BITS, where nothing is recorded yet; with opcode 0x4 it answers 0; nothing
else changes; and no SETB word is one (30_encoding.md R116). -/
def Obligations.ReservedBitsIgnored : Prop :=
  (∀ s w rest, s.inputs = .command w :: rest →
    ((w.toNat / 2 ^ 28 = 1 ∨ w.toNat / 2 ^ 28 = 4) ∧ w.toNat % 2 ^ 28 ≠ 0 ∨
      w.toNat / 2 ^ 28 = 3 ∧ w.toNat / 2 ^ 24 % 16 ≠ 0) →
    step s = .next { s with
      inputs := rest
      faultCause := if s.faultCause = 0#4 then 2#4 else s.faultCause
      resp := if w.toNat / 2 ^ 28 = 4 then s.resp ++ [false] else s.resp }) ∧
  (∀ w : Word, w.toNat / 2 ^ 28 = 2 → ∀ c, decodeCommand w ≠ .bad c)

/-- SETB, SETF and REQ while ARMED = 0 record NOT_INITIALIZED and are ignored, REQ answering 0; INIT is accepted
(60_exceptions.md R302). -/
def Obligations.NotInitializedIgnored : Prop :=
  ∀ s, s.armed = false →
    (∀ ch val, exec (.setb ch val) s =
      .next { s with faultCause := if s.faultCause = 0#4 then 3#4 else s.faultCause }) ∧
    (∀ on off, exec (.setf on off) s =
      .next { s with faultCause := if s.faultCause = 0#4 then 3#4 else s.faultCause }) ∧
    exec .req s =
      .next { s with
        faultCause := if s.faultCause = 0#4 then 3#4 else s.faultCause
        resp := s.resp ++ [false] } ∧
    ∃ t, exec .init s = .next t ∧ t.armed = true ∧ t.faultCause = s.faultCause

/-- INIT while ARMED = 1 records REINIT and is ignored; it emits nothing (60_exceptions.md R303). -/
def Obligations.ReinitIgnored : Prop :=
  ∀ s, s.armed = true →
    exec .init s = .next { s with faultCause := if s.faultCause = 0#4 then 4#4 else s.faultCause }

/-- The checks come in the order opcode, reserved bits, ARMED, and only the first one that fails is recorded
(60_exceptions.md R305). -/
def Obligations.OneCausePerWord : Prop :=
  ∀ s w rest, s.inputs = .command w :: rest → s.faultCause = 0#4 →
    ∃ t, step s = .next t ∧
      t.faultCause =
        (if w.toNat / 2 ^ 28 = 0 ∨ 5 ≤ w.toNat / 2 ^ 28 then 1#4
         else if ((w.toNat / 2 ^ 28 = 1 ∨ w.toNat / 2 ^ 28 = 4) ∧ w.toNat % 2 ^ 28 ≠ 0) ∨
            (w.toNat / 2 ^ 28 = 3 ∧ w.toNat / 2 ^ 24 % 16 ≠ 0) then 2#4
         else if w.toNat / 2 ^ 28 ≠ 1 ∧ s.armed = false then 3#4
         else if w.toNat / 2 ^ 28 = 1 ∧ s.armed = true then 4#4
         else 0#4)

/-- A word that fails a check records that check's code, where nothing is recorded yet, and answers 0 if its opcode is
0x4; it leaves no other effect, whatever was recorded before it. And no fault is asynchronous: without a command word
FAULT_CAUSE stays (60_exceptions.md R304, R307). -/
def Obligations.FaultsArePrecise : Prop :=
  ∀ s,
    (∀ w rest code, s.inputs = .command w :: rest →
      code =
        (if w.toNat / 2 ^ 28 = 0 ∨ 5 ≤ w.toNat / 2 ^ 28 then 1#4
         else if ((w.toNat / 2 ^ 28 = 1 ∨ w.toNat / 2 ^ 28 = 4) ∧ w.toNat % 2 ^ 28 ≠ 0) ∨
            (w.toNat / 2 ^ 28 = 3 ∧ w.toNat / 2 ^ 24 % 16 ≠ 0) then 2#4
         else if w.toNat / 2 ^ 28 ≠ 1 ∧ s.armed = false then 3#4
         else if w.toNat / 2 ^ 28 = 1 ∧ s.armed = true then 4#4
         else 0#4) →
      code ≠ 0#4 →
      step s = .next { s with
        inputs := rest
        faultCause := if s.faultCause = 0#4 then code else s.faultCause
        resp := if w.toNat / 2 ^ 28 = 4 then s.resp ++ [false] else s.resp }) ∧
    (∀ t, (∀ w rest, s.inputs ≠ .command w :: rest) → step s = .next t → t.faultCause = s.faultCause)

/-- The first fault since reset is kept (60_exceptions.md R304), and only the timing source or the host's words move the
block: a step that delivers a TICK records nothing (R301). -/
def Obligations.FirstFaultKept : Prop :=
  ∀ s t, step s = .next t →
    (s.faultCause ≠ 0#4 → t.faultCause = s.faultCause) ∧
    ((∀ w rest, s.inputs ≠ .command w :: rest) → t.faultCause = s.faultCause)

/-- Every command and TICK does the same whatever FAULT_CAUSE holds (60_exceptions.md R306). -/
def Obligations.FaultCauseHasNoInfluence : Prop :=
  ∀ (s : State) (c : BitVec 4), forgetFault (step { s with faultCause := c }) = forgetFault (step s)

/-! ### The mapper (40_mapper.md) -/

/-- Map is a bijection of [0, T), and every input from T on shares the position of T − 1 (40_mapper.md R148). -/
def Obligations.MapIsBijection : Prop :=
  ∀ c : Config,
    (∀ x, mapChannel c x < c.channels) ∧
    (∀ x < c.channels, ∀ y < c.channels, mapChannel c x = mapChannel c y → x = y) ∧
    (∀ p < c.channels, ∃ x < c.channels, mapChannel c x = p) ∧
    (∀ x ≥ c.channels, mapChannel c x = mapChannel c (c.channels - 1))

/-- The closed form of Map (40_mapper.md R150). -/
def Obligations.MapClosedForm : Prop :=
  ∀ (c : Config) (x k : Nat), k = swapStage c (min x (16 * c.deviceCount - 1)) →
    mapChannel c x = 16 * (c.deviceCount - 1 - k / 16) + (15 - (c.localPerm.getD (k % 16) 0).val)

/-- Logical channel 0 is at the highest physical offset in every well-formed configuration (40_mapper.md R147). -/
def Obligations.MapOfZero : Prop := ∀ c : Config, mapChannel c 0 = c.channels - 1

/-- Where the pairs of SWAPS share no index, as the default pairs do, Swap undoes itself (40_mapper.md R142). -/
def Obligations.SwapIsInvolution : Prop :=
  ∀ c : Config, c.swaps.Pairwise (fun p q => p.1 ≠ q.1 ∧ p.1 ≠ q.2 ∧ p.2 ≠ q.1 ∧ p.2 ≠ q.2) →
    ∀ x, swapStage c (swapStage c x) = x

/-- A configuration is accepted exactly when N is in 1..256, every index in SWAPS is below T and not 0, LOCAL_PERM is a
bijection of [0, 16) that fixes 0, and DC_TABLE has T entries; it is then taken unchanged, and any other is refused.
The spec asks for the refusals about SWAPS and LOCAL_PERM (40_mapper.md R143, R144, R147). Refusing an N outside 1..256
or a DC_TABLE of another length is the model's reading of the types in 00_scope.md R5 and R6, which name no refusal
(notes/assumptions/9.md). -/
def Obligations.IllFormedConfigRefused : Prop :=
  ∀ r : RawConfig,
    ((1 ≤ r.deviceCount ∧ r.deviceCount ≤ 256 ∧
        (∀ p ∈ r.swaps, p.1 < 16 * r.deviceCount ∧ p.2 < 16 * r.deviceCount ∧ p.1 ≠ 0 ∧ p.2 ≠ 0) ∧
        r.localPerm.length = 16 ∧ (∀ v : Fin 16, ∃ j < 16, r.localPerm[j]? = some v) ∧ r.localPerm[0]? = some 0 ∧
        r.dcTable.length = 16 * r.deviceCount) →
      ∃ c, Config.ofRaw r = .ok c ∧ c.toRawConfig = r) ∧
    (¬(1 ≤ r.deviceCount ∧ r.deviceCount ≤ 256 ∧
        (∀ p ∈ r.swaps, p.1 < 16 * r.deviceCount ∧ p.2 < 16 * r.deviceCount ∧ p.1 ≠ 0 ∧ p.2 ≠ 0) ∧
        r.localPerm.length = 16 ∧ (∀ v : Fin 16, ∃ j < 16, r.localPerm[j]? = some v) ∧ r.localPerm[0]? = some 0 ∧
        r.dcTable.length = 16 * r.deviceCount) →
      ∃ e, Config.ofRaw r = .error e)

/-! ### The packer (41_packer.md) -/

/-- Pack writes the two bytes of R161 and R162, and every other byte reads as before (20_memory.md R76). -/
def Obligations.PackWritesTwoBytes : Prop :=
  ∀ (c : Config) (x : Memory) (i : Nat) (v : Level), x.wf c.bufferBytes = true → i < c.channels →
    (i % 2 = 0 →
      (pack x i v).read (3 * i / 2) = v.extractLsb' 4 8 ∧
      (pack x i v).read (3 * i / 2 + 1) = v.extractLsb' 0 4 ++ (x.read (3 * i / 2 + 1)).extractLsb' 0 4) ∧
    (i % 2 = 1 →
      (pack x i v).read (3 * i / 2) = (x.read (3 * i / 2)).extractLsb' 4 4 ++ v.extractLsb' 8 4 ∧
      (pack x i v).read (3 * i / 2 + 1) = v.extractLsb' 0 8) ∧
    ∀ k, k ≠ 3 * i / 2 → k ≠ 3 * i / 2 + 1 → (pack x i v).read k = x.read k

/-- Unpack after Pack gives the value back, and no other channel's value changes, its neighbour in the shared byte
included (41_packer.md R164). -/
def Obligations.PackRoundTrip : Prop :=
  ∀ (c : Config) (x : Memory) (i : Nat) (v : Level), x.wf c.bufferBytes = true → i < c.channels →
    unpack (pack x i v) i = v ∧ ∀ j < c.channels, j ≠ i → unpack (pack x i v) j = unpack x j

/-- Three bytes read as one big-endian number are the values of two channels, the even one first
(20_memory.md R73). -/
def Obligations.PairIsBigEndian : Prop :=
  ∀ (x : Memory) (q : Nat),
    (x.read (3 * q)).toNat * 2 ^ 16 + (x.read (3 * q + 1)).toNat * 2 ^ 8 + (x.read (3 * q + 2)).toNat =
      (unpack x (2 * q)).toNat * 2 ^ 12 + (unpack x (2 * q + 1)).toNat

/-- The serial stream: bytes in ascending order, each most significant bit first; and so the channels' 12-bit values in
ascending order, each most significant bit first (20_memory.md R86). -/
def Obligations.StreamOrder : Prop :=
  ∀ (c : Config) (x : Memory),
    (gsStream c.bufferBytes x).length = 192 * c.deviceCount ∧
    (∀ k < c.bufferBytes, ∀ j < 8,
      (gsStream c.bufferBytes x)[8 * k + j]? = some ((x.read k).getLsbD (7 - j))) ∧
    (∀ i < c.channels, ∀ j < 12,
      (gsStream c.bufferBytes x)[12 * i + j]? = some ((unpack x i).getLsbD (11 - j)))

/-- ClampValue (41_packer.md R166). -/
def Obligations.ClampValueSaturates : Prop :=
  ∀ x : Int, ((clampValue x).toNat : Int) = min (max x 0) 4095

/-! ### SETB and SETF (41_packer.md R167, 44_fade.md R252) -/

/-- SETB, all of it: ignored before INIT; in the fade variant TARGET of the clamped channel and nothing else; in the
direct variant the write buffer at the channel's position and nothing else (41_packer.md R167). -/
def Obligations.SetbEffect : Prop :=
  ∀ (s : State) (ch : BitVec 12) (val : BitVec 16),
    (s.armed = false →
      exec (.setb ch val) s = .next { s with faultCause := if s.faultCause = 0#4 then 3#4 else s.faultCause }) ∧
    (s.armed = true → s.cfg.fadeEnabled = true →
      exec (.setb ch val) s =
        .next { s with target := s.target.set (min ch.toNat (s.cfg.channels - 1)) (clampValue val.toInt) }) ∧
    (s.armed = true → s.cfg.fadeEnabled = false →
      exec (.setb ch val) s =
        .next { s with wb := pack s.wb (mapChannel s.cfg ch.toNat) (clampValue val.toInt) })

/-- What SETB leaves where it is read: the named channel holds the clamped value, in TARGET or in the write buffer at its
physical position, every other channel and every byte outside the two that are stored reads as before
(41_packer.md R167, R164). -/
def Obligations.SetbWritesOneChannel : Prop :=
  ∀ (s : State) (ch : BitVec 12) (val : BitVec 16) (l : Nat) (v : Level), s.wf = true → s.armed = true →
    l = min ch.toNat (s.cfg.channels - 1) → (v.toNat : Int) = min (max val.toInt 0) 4095 →
    ∃ t, exec (.setb ch val) s = .next t ∧
      (s.cfg.fadeEnabled = true →
        levelAt t.target l = v ∧ (∀ m, m ≠ l → levelAt t.target m = levelAt s.target m) ∧
        t = { s with target := t.target }) ∧
      (s.cfg.fadeEnabled = false →
        unpack t.wb (mapChannel s.cfg l) = v ∧
        (∀ m < s.cfg.channels, m ≠ l → unpack t.wb (mapChannel s.cfg m) = unpack s.wb (mapChannel s.cfg m)) ∧
        (∀ k, k ≠ packBase (mapChannel s.cfg ch.toNat) → k ≠ packBase (mapChannel s.cfg ch.toNat) + 1 →
          t.wb.read k = s.wb.read k) ∧
        t = { s with wb := t.wb })

/-- SETF, all of it, in both variants: ignored before INIT, and then the two rates as given and nothing else
(44_fade.md R252, R253). -/
def Obligations.SetfEffect : Prop :=
  ∀ (s : State) (on off : BitVec 12),
    (s.armed = false →
      exec (.setf on off) s = .next { s with faultCause := if s.faultCause = 0#4 then 3#4 else s.faultCause }) ∧
    (s.armed = true → exec (.setf on off) s = .next { s with fadeOn := on, fadeOff := off })

/-! ### REQ and CoordinatorUpdate (42_coordinator.md) -/

/-- A request while a frame is pending, REQ's or the fade step's, writes nothing and answers 0 (42_coordinator.md R191). -/
def Obligations.ReqBusy : Prop :=
  ∀ s, s.pending = true →
    coordinatorUpdate s = (s, false) ∧
    (s.armed = true → exec .req s = .next { s with resp := s.resp ++ [false] })

/-- A request while none is pending, REQ's or the fade step's, copies the write buffer, sets PENDING and answers 1
(42_coordinator.md R192). -/
def Obligations.ReqAccepted : Prop :=
  ∀ s, s.pending = false →
    coordinatorUpdate s = ({ s with tb := s.wb, pending := true }, true) ∧
    (s.armed = true → exec .req s = .next { s with tb := s.wb, pending := true, resp := s.resp ++ [true] })

/-- The copy loop of R190, byte after byte, gives what the model's single assignment gives. -/
def Obligations.CopyLoopIsWholeCopy : Prop :=
  ∀ (bytes : Nat) (src dst : Memory), src.wf bytes = true → dst.wf bytes = true → copyBytes bytes src dst = src

/-- One response bit for each command word with opcode 0x4, in order, and none for anything else; the bit is 1 exactly
for an accepted request (30_encoding.md R104, 42_coordinator.md R193). -/
def Obligations.OneAnswerPerReqWord : Prop :=
  ∀ s t, step s = .next t →
    (∀ w rest, s.inputs = .command w :: rest → w.toNat / 2 ^ 28 = 4 →
      t.resp = s.resp ++ [decide (w = 0x40000000#32) && s.armed && !s.pending]) ∧
    ((∀ w rest, s.inputs = .command w :: rest → w.toNat / 2 ^ 28 ≠ 4) → t.resp = s.resp)

/-- TB is never overwritten while a frame is pending (20_memory.md R82, 42_coordinator.md R194). -/
def Obligations.NoTearing : Prop := ∀ s t, step s = .next t → s.pending = true → t.tb = s.tb

/-- Only REQ's CoordinatorUpdate leaves PENDING set, with TB the write buffer; only a TICK clears it, and every TICK leaves
it clear (20_memory.md R83). -/
def Obligations.PendingProtocol : Prop :=
  ∀ s t, step s = .next t →
    (s.pending = false → t.pending = true →
      s.armed = true ∧ t.tb = s.wb ∧ ∃ rest, s.inputs = .command 0x40000000#32 :: rest) ∧
    (s.pending = true → t.pending = false → s.armed = true ∧ ∃ rest, s.inputs = .tick 0x70000000#32 :: rest) ∧
    (s.armed = true → (∃ rest, s.inputs = .tick 0x70000000#32 :: rest) → t.pending = false)

/-- POLL's loop: in every state a turn of it is one REQ, and it is left exactly when that REQ answers 1. With a frame
pending it goes round with answer 0 for as many turns as the host takes before the next TICK, and ends with the
first one after it, when TB is the write buffer and PENDING = 1; with none pending it ends at once
(30_encoding.md R122, 42_coordinator.md R195, 70_reset_and_hazards.md R351). -/
def Obligations.PollEndsAtNextTick : Prop :=
  ∀ (s : State) (rest : List HostAction),
    (∃ t, Session.hostTurn ⟨s, .pollLoop :: rest⟩ = .next t ∧
      ((t.program = rest ∧ t.block.resp = s.resp ++ [true]) ∨
        (t.program = .pollLoop :: rest ∧ t.block.resp = s.resp ++ [false]))) ∧
    (s.armed = true → s.pending = true → ∀ n : Nat,
      ∃ t, Session.run (List.replicate n .host ++ [.timingSource, .host]) ⟨s, .pollLoop :: rest⟩ = .next t ∧
        t.program = rest ∧ t.block.resp = s.resp ++ List.replicate n false ++ [true] ∧
        t.block.pending = true ∧ t.block.tb = t.block.wb) ∧
    (s.armed = true → s.pending = false →
      ∃ t, Session.run [.host] ⟨s, .pollLoop :: rest⟩ = .next t ∧
        t.program = rest ∧ t.block.resp = s.resp ++ [true] ∧ t.block.pending = true ∧ t.block.tb = s.wb)

/-! ### TICK (43_output_handler.md) -/

/-- TICK in the direct variant, all of it (43_output_handler.md R210–R215). -/
def Obligations.TickDirectEffect : Prop :=
  ∀ s, s.armed = true → s.cfg.fadeEnabled = false →
    exec .tick s = .next { s with
      out := s.out ++ [.blank true] ++ (if s.awaitLatch then [.latch] else []) ++ [.blank false] ++
        (if s.pending then (gsStream s.cfg.bufferBytes s.tb).map .bit else [])
      blankPin := false
      pending := false
      awaitLatch := s.pending }

/-- The events of a TICK in either variant, in order, and their number: `Blank(1)`, `Latch` where a frame awaited it,
`Blank(0)`, and the 192 × N bits of TB where PENDING = 1 after the fade step (43_output_handler.md R220). Afterwards
AWAIT_LATCH says whether a frame was shifted, and PENDING is 0. -/
def Obligations.TickEvents : Prop :=
  ∀ s, s.armed = true →
    ∃ t, exec .tick s = .next t ∧
      t.out = s.out ++ [.blank true] ++ (if s.awaitLatch then [.latch] else []) ++ [.blank false] ++
        (if (fadeIfEnabled (blankLatchUnblank s)).pending then (gsStream s.cfg.bufferBytes t.tb).map .bit else []) ∧
      t.out.length = s.out.length + (2 + (if s.awaitLatch then 1 else 0) +
        192 * s.cfg.deviceCount * (if (fadeIfEnabled (blankLatchUnblank s)).pending then 1 else 0)) ∧
      t.awaitLatch = (fadeIfEnabled (blankLatchUnblank s)).pending ∧ t.pending = false ∧ t.blankPin = false

/-- What a TICK never writes, and what the direct variant's leaves besides (43_output_handler.md R210). -/
def Obligations.TickFrame : Prop :=
  ∀ s, s.armed = true →
    ∃ t, exec .tick s = .next t ∧
      t = { s with
        out := t.out
        blankPin := t.blankPin
        awaitLatch := t.awaitLatch
        pending := t.pending
        actual := t.actual
        wb := t.wb
        tb := t.tb } ∧
      (s.cfg.fadeEnabled = false → t.actual = s.actual ∧ t.wb = s.wb ∧ t.tb = s.tb)

/-- The fade step of a TICK, channel by channel: up by FADE_ON and not past the target, down by FADE_OFF and not past it,
or left alone; each changed value in the write buffer at its physical position; every byte of the write buffer that belongs
to no changed channel as before; and one request, if a channel changed, which a pending frame drops
(44_fade.md R240–R249). -/
def Obligations.TickFadesEveryChannel : Prop :=
  ∀ s, s.wf = true → s.armed = true → s.cfg.fadeEnabled = true →
    ∃ t, exec .tick s = .next t ∧
      (∀ l < s.cfg.channels, ∀ a d n, a = (levelAt s.actual l).toNat → d = (levelAt s.target l).toNat →
        n = (levelAt t.actual l).toNat →
        (a < d → n = min (a + s.fadeOn.toNat) d) ∧ (d < a → (n : Int) = max ((a : Int) - s.fadeOff.toNat) d) ∧
        (a = d → n = a)) ∧
      (∀ l < s.cfg.channels,
        unpack t.wb (mapChannel s.cfg l) =
          if levelAt t.actual l = levelAt s.actual l then unpack s.wb (mapChannel s.cfg l) else levelAt t.actual l) ∧
      (∀ k, (∀ l < s.cfg.channels, levelAt t.actual l ≠ levelAt s.actual l →
          k ≠ packBase (mapChannel s.cfg l) ∧ k ≠ packBase (mapChannel s.cfg l) + 1) → t.wb.read k = s.wb.read k) ∧
      (t.tb = if (∃ l < s.cfg.channels, levelAt t.actual l ≠ levelAt s.actual l) ∧ s.pending = false then t.wb
        else s.tb) ∧
      (t.awaitLatch = true ↔
        s.pending = true ∨ ∃ l < s.cfg.channels, levelAt t.actual l ≠ levelAt s.actual l)

/-- The order in which the fade step takes the channels makes no difference to the state it leaves
(44_fade.md R250). -/
def Obligations.FadeOrderUnobservable : Prop :=
  ∀ (s : State) (order : List Nat), s.wf = true → order.Perm (List.range s.cfg.channels) →
    fadeLoop order s = fadeLoop (List.range s.cfg.channels) s

/-- `k` ticks with no command between them move every channel `k` rates towards its target and not past it, so it reaches
the target after ⌈|t − a| / r⌉ of them and stays there (44_fade.md R246, R251). Where a channel is at its target already
the two clauses say the same. -/
def Obligations.FadeConverges : Prop :=
  ∀ (k : Nat) (s : State), s.wf = true → s.armed = true → s.cfg.fadeEnabled = true →
    s.inputs = List.replicate k (.tick 0x70000000#32) →
    ∃ t, Sys2Proof.core.run k s = .next t ∧ t.target = s.target ∧
      ∀ l < s.cfg.channels, ∀ a d n, a = (levelAt s.actual l).toNat → d = (levelAt s.target l).toNat →
        n = (levelAt t.actual l).toNat →
        (a ≤ d → n = min (a + k * s.fadeOn.toNat) d) ∧ (d ≤ a → (n : Int) = max ((a : Int) - k * s.fadeOff.toNat) d)

/-- The dropped fade frame: with a frame pending, the fade step's own request is dropped and the TICK shifts the older
frame; if every channel has reached its target in that step, the next TICK latches that older frame, changes no channel,
makes no request and shifts nothing (70_reset_and_hazards.md R350). -/
def Obligations.DroppedFadeFrame : Prop :=
  ∀ s, s.wf = true → s.armed = true → s.cfg.fadeEnabled = true → s.pending = true →
    ∃ t, exec .tick s = .next t ∧ t.tb = s.tb ∧
      t.out = s.out ++ [.blank true] ++ (if s.awaitLatch then [.latch] else []) ++ [.blank false] ++
        (gsStream s.cfg.bufferBytes s.tb).map .bit ∧
      ((∀ l < s.cfg.channels, levelAt t.actual l = levelAt t.target l) →
        exec .tick t = .next { t with
          out := t.out ++ [.blank true, .latch, .blank false]
          awaitLatch := false })

/-! ### INIT (45_init.md) -/

/-- INIT where it is accepted, all of it (45_init.md R270–R278). -/
def Obligations.InitEffect : Prop :=
  ∀ s, s.armed = false →
    exec .init s = .next { s with
      out := s.out ++ ([.blank true, .mode true] ++ (dcStream s.cfg).map .bit ++ [.latch, .mode false] ++
        List.replicate (192 * s.cfg.deviceCount) (.bit false) ++ [.latch, .extraClock])
      blankPin := true
      vprgPin := false
      armed := true }

/-- An accepted INIT appends exactly 6 + 288 × N events: Blank(1), Mode(1), 96 × N bits, Latch, Mode(0), 192 × N zero
bits, Latch, ExtraClock (45_init.md R279). -/
def Obligations.InitEventTotal : Prop :=
  ∀ s, s.armed = false →
    ∃ (t : State) (bits : List Bool), exec .init s = .next t ∧ bits.length = 96 * s.cfg.deviceCount ∧
      t.out = s.out ++ [.blank true, .mode true] ++ bits.map .bit ++ [.latch, .mode false] ++
        List.replicate (192 * s.cfg.deviceCount) (.bit false) ++ [.latch, .extraClock] ∧
      t.out.length = s.out.length + (6 + 288 * s.cfg.deviceCount)

/-- DCStream holds each logical channel's six bits at its physical position, most significant first; with the default
table every bit is 1, whatever SWAPS and LOCAL_PERM are (45_init.md R274). -/
def Obligations.DotCorrectionStream : Prop :=
  ∀ c : Config,
    (dcStream c).length = 96 * c.deviceCount ∧
    (∀ l < c.channels, ∀ j < 6,
      (dcStream c)[6 * mapChannel c l + j]? = some ((c.dcTable.getD l 0#6).getLsbD (5 - j))) ∧
    (c.dcTable = List.replicate c.channels 63#6 → dcStream c = List.replicate (96 * c.deviceCount) true)

/-! ### Reset and the invariants of the whole block -/

/-- Reset puts every state element at its value, whatever the configuration and whatever the state it is asserted in
(10_state.md R60). -/
def Obligations.ResetValues : Prop :=
  ∀ (c : Config) (s : State), (s = State.resetWith c ∨ ∃ u : State, u.cfg = c ∧ s = u.powerUp) →
    (∀ k, s.wb.read k = 0#8 ∧ s.tb.read k = 0#8) ∧ s.pending = false ∧ s.awaitLatch = false ∧
    s.target.length = c.channels ∧ s.actual.length = c.channels ∧
    (∀ l, levelAt s.target l = 0#12 ∧ levelAt s.actual l = 0#12) ∧
    s.fadeOn = c.fadeOnDefault ∧ s.fadeOff = c.fadeOffDefault ∧ s.armed = false ∧ s.faultCause = 0#4 ∧
    s.blankPin = true ∧ s.vprgPin = false ∧ s.out = [] ∧ s.resp = []

/-- Every invariant below holds at reset, in every configuration and whatever is then delivered. -/
def Obligations.ResetMeetsInvariants : Prop :=
  ∀ (c : Config) (ins : List PortEvent) (s : State), s = { State.resetWith c with inputs := ins } →
    s.wf = true ∧ s.mirrorsActual ∧ s.fadeUnused ∧ s.quietBeforeInit ∧ s.pinsFollowOut ∧ s.latchesWholeFrames

/-- Every step keeps the form of the state: canonical buffers of B bytes, T fade registers of each kind, no excluded
fault code (20_memory.md R70, 10_state.md R42, R47). -/
def Obligations.StepKeepsForm : Prop := ∀ s t, s.wf = true → step s = .next t → t.wf = true

/-- Every step keeps Unpack(WB, Map(l)) = ACTUAL[l] in the fade variant (10_state.md R50). -/
def Obligations.StepKeepsMirror : Prop :=
  ∀ s t, s.wf = true → s.mirrorsActual → step s = .next t → t.mirrorsActual

/-- Every step of a direct-variant block leaves TARGET and ACTUAL at 0 (10_state.md R42). -/
def Obligations.StepKeepsFadeUnused : Prop := ∀ s t, s.fadeUnused → step s = .next t → t.fadeUnused

/-- Until INIT is accepted every step leaves everything but FAULT_CAUSE and RESP as reset left it
(70_reset_and_hazards.md R341, 45_init.md R278). -/
def Obligations.StepKeepsQuietBeforeInit : Prop :=
  ∀ s t, s.quietBeforeInit → step s = .next t → t.quietBeforeInit

/-- Every step leaves the level pins at what the last `Blank` and `Mode` events gave them (10_state.md R36). -/
def Obligations.StepKeepsPins : Prop := ∀ s t, s.pinsFollowOut → step s = .next t → t.pinsFollowOut

/-- No partial frame is ever latched: after INIT every `Latch` comes after exactly 192 × N bits since the one before
(43_output_handler.md R217). -/
def Obligations.StepKeepsWholeFrames : Prop :=
  ∀ s t, s.quietBeforeInit → s.latchesWholeFrames → step s = .next t → t.latchesWholeFrames

/-- Every reachable state, in every configuration and under every order of deliveries, meets all the invariants, and has
the configuration it was built with (10_state.md R33, R61). That a reset keeps the configuration too is the model's choice
(notes/assumptions/17.md). -/
def Obligations.ReachableStatesSafe : Prop :=
  ∀ (c : Config) (s : State), Reachable c s →
    s.cfg = c ∧ s.wf = true ∧ s.mirrorsActual ∧ s.fadeUnused ∧ s.quietBeforeInit ∧ s.pinsFollowOut ∧
      s.latchesWholeFrames

/-- No step changes a parameter (10_state.md R33), takes back an event or a response (R35, R46), or clears ARMED (R45). -/
def Obligations.TracesOnlyGrow : Prop :=
  ∀ s t, step s = .next t →
    t.cfg = s.cfg ∧ s.out <+: t.out ∧ s.resp <+: t.resp ∧ (s.armed = true → t.armed = true)

/-- Each element changes only by the operations that R32's table names as its writers (10_state.md R32). -/
def Obligations.OnlyItsWritersChangeIt : Prop :=
  ∀ s t w rest, s.inputs = .command w :: rest → step s = .next t →
    t.actual = s.actual ∧ t.awaitLatch = s.awaitLatch ∧
    (w.toNat / 2 ^ 28 = 2 ∧ s.cfg.fadeEnabled = false ∨ t.wb = s.wb) ∧
    (w.toNat / 2 ^ 28 = 2 ∧ s.cfg.fadeEnabled = true ∨ t.target = s.target) ∧
    (w.toNat / 2 ^ 28 = 3 ∨ t.fadeOn = s.fadeOn ∧ t.fadeOff = s.fadeOff) ∧
    (w.toNat / 2 ^ 28 = 4 ∨ t.tb = s.tb ∧ t.pending = s.pending ∧ t.resp = s.resp) ∧
    (w.toNat / 2 ^ 28 = 1 ∨
      t.out = s.out ∧ t.armed = s.armed ∧ t.blankPin = s.blankPin ∧ t.vprgPin = s.vprgPin)

/-! ### What the chip chain shows (60_exceptions.md R312–R316; the environment, notes/assumptions/10.md) -/

/-- A logical channel is driven by device Swap(l) div 16 at output LOCAL_PERM[Swap(l) mod 16]. Which stream group drives
which output of a device is the environment model's, PRESUMED (notes/assumptions/10.md): the spec's section on the chip
chain marks it as from general knowledge. -/
def Obligations.ChannelLandsOnItsOutput : Prop :=
  ∀ (c : Config) (x k : Nat), k = swapStage c (min x (c.channels - 1)) →
    mapChannel c x = chainGroup c.deviceCount (k / 16) (localPin c (k % 16)) ∧
      k / 16 < c.deviceCount ∧ localPin c (k % 16) < 16

/-- After an accepted INIT the chain has latched zeros and the dot-correction stream, whatever it held before, and shows
nothing. The chain is the environment model's, PRESUMED (notes/assumptions/10.md; 60_exceptions.md R314, R316;
45_init.md R275). -/
def Obligations.ChainAfterInit : Prop :=
  ∀ (s : State) (h : Chain), s.armed = false → h.devices = s.cfg.deviceCount → h.wf = true →
    ∃ t, exec .init s = .next t ∧
      (t.display h).gsLatch = List.replicate (192 * s.cfg.deviceCount) false ∧
      (t.display h).dcLatch = dcStream s.cfg ∧ ∀ d o, (t.display h).shows d o = 0#12

/-- A frame shifted in one TICK is what the chain shows after the TICK that latches it: each logical channel's value in TB
at the time of the shift, on its own output (43_output_handler.md R217, 60_exceptions.md R315, R316). Between the two TICKs
come only commands that drive nothing, so `u` has the first TICK's trace. The chain is the environment model's, PRESUMED
(notes/assumptions/10.md). -/
def Obligations.LatchedFrameIsShown : Prop :=
  ∀ (s t u v : State) (h : Chain), h.devices = s.cfg.deviceCount → h.wf = true → modeLevel s.out = false →
    exec .tick s = .next t → t.awaitLatch = true →
    u.cfg = t.cfg → u.out = t.out → u.awaitLatch = true → exec .tick u = .next v →
    (v.display h).gsLatch = gsStream s.cfg.bufferBytes t.tb ∧
      ∀ l < s.cfg.channels, ∀ k, k = swapStage s.cfg l →
        (v.display h).shows (k / 16) (localPin s.cfg (k % 16)) = unpack t.tb (mapChannel s.cfg l)
end

