-- ==== Sys2Proof/Laws/Config.lean ====
section
/-! SUPPORT. What the checks on a configuration give, and the range of each stage of the mapper. -/

namespace Sys2Proof

theorem RawConfig.wf_iff {r : RawConfig} : r.wf = true ↔
    (1 ≤ r.deviceCount ∧ r.deviceCount ≤ 256) ∧ (∀ p ∈ r.swaps, p.1 < r.channels ∧ p.2 < r.channels) ∧
    (∀ p ∈ r.swaps, p.1 ≠ 0 ∧ p.2 ≠ 0) ∧ r.localPerm.length = 16 ∧ r.localPerm.Nodup ∧
    r.localPerm[0]? = some 0 ∧ r.dcTable.length = r.channels := by
  simp only [RawConfig.wf, RawConfig.deviceCountOk, RawConfig.swapsInRange, RawConfig.swapsFixZero,
    RawConfig.localPermComplete, RawConfig.localPermInjective, RawConfig.localPermFixesZero,
    RawConfig.dcTableComplete, Bool.and_eq_true, List.all_eq_true, decide_eq_true_eq, and_assoc]

theorem Config.wf_iff (c : Config) :
    (1 ≤ c.deviceCount ∧ c.deviceCount ≤ 256) ∧ (∀ p ∈ c.swaps, p.1 < c.channels ∧ p.2 < c.channels) ∧
    (∀ p ∈ c.swaps, p.1 ≠ 0 ∧ p.2 ≠ 0) ∧ c.localPerm.length = 16 ∧ c.localPerm.Nodup ∧
    c.localPerm[0]? = some 0 ∧ c.dcTable.length = c.channels := RawConfig.wf_iff.1 c.ok

theorem Config.channels_eq (c : Config) : c.channels = 16 * c.deviceCount := rfl

theorem Config.channels_pos (c : Config) : 0 < c.channels := by
  have := c.wf_iff.1.1
  rw [Config.channels_eq]; omega

namespace Machine

theorem swapPair_lt {n x : Nat} {p : Nat × Nat} (hx : x < n) (hp : p.1 < n ∧ p.2 < n) : swapPair x p < n := by
  unfold swapPair
  split_ifs
  · exact hp.2
  · exact hp.1
  · exact hx

/-- One wiring correction undoes itself. -/
theorem swapPair_swapPair (x : Nat) (p : Nat × Nat) : swapPair (swapPair x p) p = x := by
  unfold swapPair
  split_ifs <;> simp_all

theorem foldl_swapPair_lt {n x : Nat} {ps : List (Nat × Nat)} (hx : x < n) (hp : ∀ p ∈ ps, p.1 < n ∧ p.2 < n) :
    ps.foldl swapPair x < n := by
  induction ps generalizing x with
  | nil => exact hx
  | cons p ps ih =>
    exact ih (swapPair_lt hx (hp p (by simp))) fun q hq => hp q (by simp [hq])

theorem clampChannel_lt (c : Config) (x : Nat) : clampChannel c x < c.channels := by
  have := c.channels_pos
  unfold clampChannel
  omega

theorem clampChannel_of_lt {c : Config} {x : Nat} (h : x < c.channels) : clampChannel c x = x := by
  unfold clampChannel
  omega

theorem swapStage_lt {c : Config} {x : Nat} (h : x < c.channels) : swapStage c x < c.channels :=
  foldl_swapPair_lt h c.wf_iff.2.1

theorem localPin_lt (c : Config) (j : Nat) : localPin c j < 16 := Fin.isLt _

/-- The remap stays in the device block of its channel (40_mapper.md R145). -/
theorem remapStage_div (c : Config) (x : Nat) : remapStage c x / 16 = x / 16 := by
  have := localPin_lt c (x % 16)
  unfold remapStage
  omega

theorem remapStage_lt {c : Config} {x : Nat} (h : x < c.channels) : remapStage c x < c.channels := by
  have := remapStage_div c x
  rw [Config.channels_eq] at h ⊢
  omega

/-- Every physical position lies in [0, T) (40_mapper.md R146). -/
theorem mapChannel_lt (c : Config) (x : Nat) : mapChannel c x < c.channels := by
  have := c.channels_pos
  unfold mapChannel reverseStage
  omega

end Machine

end Sys2Proof
end

