-- ==== Sys2Proof/Laws/State.lean ====
section
/-! SUPPORT. The value of each field of State after each named update: one lemma a field and an update, true by rfl. -/

namespace Sys2Proof.Machine

/-! ### State.emit -/

@[simp] theorem State.emit_cfg (s : State) (es : List OutEvent) : (s.emit es).cfg = s.cfg := rfl
@[simp] theorem State.emit_wb (s : State) (es : List OutEvent) : (s.emit es).wb = s.wb := rfl
@[simp] theorem State.emit_tb (s : State) (es : List OutEvent) : (s.emit es).tb = s.tb := rfl
@[simp] theorem State.emit_pending (s : State) (es : List OutEvent) : (s.emit es).pending = s.pending := rfl
@[simp] theorem State.emit_awaitLatch (s : State) (es : List OutEvent) : (s.emit es).awaitLatch = s.awaitLatch := rfl
@[simp] theorem State.emit_target (s : State) (es : List OutEvent) : (s.emit es).target = s.target := rfl
@[simp] theorem State.emit_actual (s : State) (es : List OutEvent) : (s.emit es).actual = s.actual := rfl
@[simp] theorem State.emit_fadeOn (s : State) (es : List OutEvent) : (s.emit es).fadeOn = s.fadeOn := rfl
@[simp] theorem State.emit_fadeOff (s : State) (es : List OutEvent) : (s.emit es).fadeOff = s.fadeOff := rfl
@[simp] theorem State.emit_armed (s : State) (es : List OutEvent) : (s.emit es).armed = s.armed := rfl
@[simp] theorem State.emit_faultCause (s : State) (es : List OutEvent) : (s.emit es).faultCause = s.faultCause := rfl
@[simp] theorem State.emit_blankPin (s : State) (es : List OutEvent) : (s.emit es).blankPin = s.blankPin := rfl
@[simp] theorem State.emit_vprgPin (s : State) (es : List OutEvent) : (s.emit es).vprgPin = s.vprgPin := rfl
@[simp] theorem State.emit_out (s : State) (es : List OutEvent) : (s.emit es).out = s.out ++ es := rfl
@[simp] theorem State.emit_resp (s : State) (es : List OutEvent) : (s.emit es).resp = s.resp := rfl
@[simp] theorem State.emit_inputs (s : State) (es : List OutEvent) : (s.emit es).inputs = s.inputs := rfl

/-! ### State.driveBlank -/

@[simp] theorem State.driveBlank_cfg (s : State) (v : Bool) : (s.driveBlank v).cfg = s.cfg := rfl
@[simp] theorem State.driveBlank_wb (s : State) (v : Bool) : (s.driveBlank v).wb = s.wb := rfl
@[simp] theorem State.driveBlank_tb (s : State) (v : Bool) : (s.driveBlank v).tb = s.tb := rfl
@[simp] theorem State.driveBlank_pending (s : State) (v : Bool) : (s.driveBlank v).pending = s.pending := rfl
@[simp] theorem State.driveBlank_awaitLatch (s : State) (v : Bool) : (s.driveBlank v).awaitLatch = s.awaitLatch := rfl
@[simp] theorem State.driveBlank_target (s : State) (v : Bool) : (s.driveBlank v).target = s.target := rfl
@[simp] theorem State.driveBlank_actual (s : State) (v : Bool) : (s.driveBlank v).actual = s.actual := rfl
@[simp] theorem State.driveBlank_fadeOn (s : State) (v : Bool) : (s.driveBlank v).fadeOn = s.fadeOn := rfl
@[simp] theorem State.driveBlank_fadeOff (s : State) (v : Bool) : (s.driveBlank v).fadeOff = s.fadeOff := rfl
@[simp] theorem State.driveBlank_armed (s : State) (v : Bool) : (s.driveBlank v).armed = s.armed := rfl
@[simp] theorem State.driveBlank_faultCause (s : State) (v : Bool) : (s.driveBlank v).faultCause = s.faultCause := rfl
@[simp] theorem State.driveBlank_blankPin (s : State) (v : Bool) : (s.driveBlank v).blankPin = v := rfl
@[simp] theorem State.driveBlank_vprgPin (s : State) (v : Bool) : (s.driveBlank v).vprgPin = s.vprgPin := rfl
@[simp] theorem State.driveBlank_out (s : State) (v : Bool) : (s.driveBlank v).out = s.out ++ [.blank v] := rfl
@[simp] theorem State.driveBlank_resp (s : State) (v : Bool) : (s.driveBlank v).resp = s.resp := rfl
@[simp] theorem State.driveBlank_inputs (s : State) (v : Bool) : (s.driveBlank v).inputs = s.inputs := rfl

/-! ### State.driveMode -/

@[simp] theorem State.driveMode_cfg (s : State) (v : Bool) : (s.driveMode v).cfg = s.cfg := rfl
@[simp] theorem State.driveMode_wb (s : State) (v : Bool) : (s.driveMode v).wb = s.wb := rfl
@[simp] theorem State.driveMode_tb (s : State) (v : Bool) : (s.driveMode v).tb = s.tb := rfl
@[simp] theorem State.driveMode_pending (s : State) (v : Bool) : (s.driveMode v).pending = s.pending := rfl
@[simp] theorem State.driveMode_awaitLatch (s : State) (v : Bool) : (s.driveMode v).awaitLatch = s.awaitLatch := rfl
@[simp] theorem State.driveMode_target (s : State) (v : Bool) : (s.driveMode v).target = s.target := rfl
@[simp] theorem State.driveMode_actual (s : State) (v : Bool) : (s.driveMode v).actual = s.actual := rfl
@[simp] theorem State.driveMode_fadeOn (s : State) (v : Bool) : (s.driveMode v).fadeOn = s.fadeOn := rfl
@[simp] theorem State.driveMode_fadeOff (s : State) (v : Bool) : (s.driveMode v).fadeOff = s.fadeOff := rfl
@[simp] theorem State.driveMode_armed (s : State) (v : Bool) : (s.driveMode v).armed = s.armed := rfl
@[simp] theorem State.driveMode_faultCause (s : State) (v : Bool) : (s.driveMode v).faultCause = s.faultCause := rfl
@[simp] theorem State.driveMode_blankPin (s : State) (v : Bool) : (s.driveMode v).blankPin = s.blankPin := rfl
@[simp] theorem State.driveMode_vprgPin (s : State) (v : Bool) : (s.driveMode v).vprgPin = v := rfl
@[simp] theorem State.driveMode_out (s : State) (v : Bool) : (s.driveMode v).out = s.out ++ [.mode v] := rfl
@[simp] theorem State.driveMode_resp (s : State) (v : Bool) : (s.driveMode v).resp = s.resp := rfl
@[simp] theorem State.driveMode_inputs (s : State) (v : Bool) : (s.driveMode v).inputs = s.inputs := rfl

/-! ### State.shiftBits -/

@[simp] theorem State.shiftBits_cfg (s : State) (bs : List Bool) : (s.shiftBits bs).cfg = s.cfg := rfl
@[simp] theorem State.shiftBits_wb (s : State) (bs : List Bool) : (s.shiftBits bs).wb = s.wb := rfl
@[simp] theorem State.shiftBits_tb (s : State) (bs : List Bool) : (s.shiftBits bs).tb = s.tb := rfl
@[simp] theorem State.shiftBits_pending (s : State) (bs : List Bool) : (s.shiftBits bs).pending = s.pending := rfl
@[simp] theorem State.shiftBits_awaitLatch (s : State) (bs : List Bool) : (s.shiftBits bs).awaitLatch = s.awaitLatch := rfl
@[simp] theorem State.shiftBits_target (s : State) (bs : List Bool) : (s.shiftBits bs).target = s.target := rfl
@[simp] theorem State.shiftBits_actual (s : State) (bs : List Bool) : (s.shiftBits bs).actual = s.actual := rfl
@[simp] theorem State.shiftBits_fadeOn (s : State) (bs : List Bool) : (s.shiftBits bs).fadeOn = s.fadeOn := rfl
@[simp] theorem State.shiftBits_fadeOff (s : State) (bs : List Bool) : (s.shiftBits bs).fadeOff = s.fadeOff := rfl
@[simp] theorem State.shiftBits_armed (s : State) (bs : List Bool) : (s.shiftBits bs).armed = s.armed := rfl
@[simp] theorem State.shiftBits_faultCause (s : State) (bs : List Bool) : (s.shiftBits bs).faultCause = s.faultCause := rfl
@[simp] theorem State.shiftBits_blankPin (s : State) (bs : List Bool) : (s.shiftBits bs).blankPin = s.blankPin := rfl
@[simp] theorem State.shiftBits_vprgPin (s : State) (bs : List Bool) : (s.shiftBits bs).vprgPin = s.vprgPin := rfl
@[simp] theorem State.shiftBits_out (s : State) (bs : List Bool) : (s.shiftBits bs).out = s.out ++ bs.map .bit := rfl
@[simp] theorem State.shiftBits_resp (s : State) (bs : List Bool) : (s.shiftBits bs).resp = s.resp := rfl
@[simp] theorem State.shiftBits_inputs (s : State) (bs : List Bool) : (s.shiftBits bs).inputs = s.inputs := rfl

/-! ### State.respond -/

@[simp] theorem State.respond_cfg (s : State) (b : Bool) : (s.respond b).cfg = s.cfg := rfl
@[simp] theorem State.respond_wb (s : State) (b : Bool) : (s.respond b).wb = s.wb := rfl
@[simp] theorem State.respond_tb (s : State) (b : Bool) : (s.respond b).tb = s.tb := rfl
@[simp] theorem State.respond_pending (s : State) (b : Bool) : (s.respond b).pending = s.pending := rfl
@[simp] theorem State.respond_awaitLatch (s : State) (b : Bool) : (s.respond b).awaitLatch = s.awaitLatch := rfl
@[simp] theorem State.respond_target (s : State) (b : Bool) : (s.respond b).target = s.target := rfl
@[simp] theorem State.respond_actual (s : State) (b : Bool) : (s.respond b).actual = s.actual := rfl
@[simp] theorem State.respond_fadeOn (s : State) (b : Bool) : (s.respond b).fadeOn = s.fadeOn := rfl
@[simp] theorem State.respond_fadeOff (s : State) (b : Bool) : (s.respond b).fadeOff = s.fadeOff := rfl
@[simp] theorem State.respond_armed (s : State) (b : Bool) : (s.respond b).armed = s.armed := rfl
@[simp] theorem State.respond_faultCause (s : State) (b : Bool) : (s.respond b).faultCause = s.faultCause := rfl
@[simp] theorem State.respond_blankPin (s : State) (b : Bool) : (s.respond b).blankPin = s.blankPin := rfl
@[simp] theorem State.respond_vprgPin (s : State) (b : Bool) : (s.respond b).vprgPin = s.vprgPin := rfl
@[simp] theorem State.respond_out (s : State) (b : Bool) : (s.respond b).out = s.out := rfl
@[simp] theorem State.respond_resp (s : State) (b : Bool) : (s.respond b).resp = s.resp ++ [b] := rfl
@[simp] theorem State.respond_inputs (s : State) (b : Bool) : (s.respond b).inputs = s.inputs := rfl

/-! ### State.raiseFault -/

@[simp] theorem State.raiseFault_cfg (s : State) (c : FaultCode) (answers : Bool) : (s.raiseFault c answers).cfg = s.cfg := rfl
@[simp] theorem State.raiseFault_wb (s : State) (c : FaultCode) (answers : Bool) : (s.raiseFault c answers).wb = s.wb := rfl
@[simp] theorem State.raiseFault_tb (s : State) (c : FaultCode) (answers : Bool) : (s.raiseFault c answers).tb = s.tb := rfl
@[simp] theorem State.raiseFault_pending (s : State) (c : FaultCode) (answers : Bool) : (s.raiseFault c answers).pending = s.pending := rfl
@[simp] theorem State.raiseFault_awaitLatch (s : State) (c : FaultCode) (answers : Bool) : (s.raiseFault c answers).awaitLatch = s.awaitLatch := rfl
@[simp] theorem State.raiseFault_target (s : State) (c : FaultCode) (answers : Bool) : (s.raiseFault c answers).target = s.target := rfl
@[simp] theorem State.raiseFault_actual (s : State) (c : FaultCode) (answers : Bool) : (s.raiseFault c answers).actual = s.actual := rfl
@[simp] theorem State.raiseFault_fadeOn (s : State) (c : FaultCode) (answers : Bool) : (s.raiseFault c answers).fadeOn = s.fadeOn := rfl
@[simp] theorem State.raiseFault_fadeOff (s : State) (c : FaultCode) (answers : Bool) : (s.raiseFault c answers).fadeOff = s.fadeOff := rfl
@[simp] theorem State.raiseFault_armed (s : State) (c : FaultCode) (answers : Bool) : (s.raiseFault c answers).armed = s.armed := rfl
@[simp] theorem State.raiseFault_faultCause (s : State) (c : FaultCode) (answers : Bool) : (s.raiseFault c answers).faultCause = recordedCause s.faultCause c := rfl
@[simp] theorem State.raiseFault_blankPin (s : State) (c : FaultCode) (answers : Bool) : (s.raiseFault c answers).blankPin = s.blankPin := rfl
@[simp] theorem State.raiseFault_vprgPin (s : State) (c : FaultCode) (answers : Bool) : (s.raiseFault c answers).vprgPin = s.vprgPin := rfl
@[simp] theorem State.raiseFault_out (s : State) (c : FaultCode) (answers : Bool) : (s.raiseFault c answers).out = s.out := rfl
@[simp] theorem State.raiseFault_resp (s : State) (c : FaultCode) (answers : Bool) : (s.raiseFault c answers).resp = if answers then s.resp ++ [false] else s.resp := rfl
@[simp] theorem State.raiseFault_inputs (s : State) (c : FaultCode) (answers : Bool) : (s.raiseFault c answers).inputs = s.inputs := rfl

/-! ### setTarget -/

@[simp] theorem setTarget_cfg (s : State) (l : Nat) (v : Level) : (setTarget s l v).cfg = s.cfg := rfl
@[simp] theorem setTarget_wb (s : State) (l : Nat) (v : Level) : (setTarget s l v).wb = s.wb := rfl
@[simp] theorem setTarget_tb (s : State) (l : Nat) (v : Level) : (setTarget s l v).tb = s.tb := rfl
@[simp] theorem setTarget_pending (s : State) (l : Nat) (v : Level) : (setTarget s l v).pending = s.pending := rfl
@[simp] theorem setTarget_awaitLatch (s : State) (l : Nat) (v : Level) : (setTarget s l v).awaitLatch = s.awaitLatch := rfl
@[simp] theorem setTarget_target (s : State) (l : Nat) (v : Level) : (setTarget s l v).target = s.target.set l v := rfl
@[simp] theorem setTarget_actual (s : State) (l : Nat) (v : Level) : (setTarget s l v).actual = s.actual := rfl
@[simp] theorem setTarget_fadeOn (s : State) (l : Nat) (v : Level) : (setTarget s l v).fadeOn = s.fadeOn := rfl
@[simp] theorem setTarget_fadeOff (s : State) (l : Nat) (v : Level) : (setTarget s l v).fadeOff = s.fadeOff := rfl
@[simp] theorem setTarget_armed (s : State) (l : Nat) (v : Level) : (setTarget s l v).armed = s.armed := rfl
@[simp] theorem setTarget_faultCause (s : State) (l : Nat) (v : Level) : (setTarget s l v).faultCause = s.faultCause := rfl
@[simp] theorem setTarget_blankPin (s : State) (l : Nat) (v : Level) : (setTarget s l v).blankPin = s.blankPin := rfl
@[simp] theorem setTarget_vprgPin (s : State) (l : Nat) (v : Level) : (setTarget s l v).vprgPin = s.vprgPin := rfl
@[simp] theorem setTarget_out (s : State) (l : Nat) (v : Level) : (setTarget s l v).out = s.out := rfl
@[simp] theorem setTarget_resp (s : State) (l : Nat) (v : Level) : (setTarget s l v).resp = s.resp := rfl
@[simp] theorem setTarget_inputs (s : State) (l : Nat) (v : Level) : (setTarget s l v).inputs = s.inputs := rfl

/-! ### packChannel -/

@[simp] theorem packChannel_cfg (s : State) (x : Nat) (v : Level) : (packChannel s x v).cfg = s.cfg := rfl
@[simp] theorem packChannel_wb (s : State) (x : Nat) (v : Level) : (packChannel s x v).wb = pack s.wb (mapChannel s.cfg x) v := rfl
@[simp] theorem packChannel_tb (s : State) (x : Nat) (v : Level) : (packChannel s x v).tb = s.tb := rfl
@[simp] theorem packChannel_pending (s : State) (x : Nat) (v : Level) : (packChannel s x v).pending = s.pending := rfl
@[simp] theorem packChannel_awaitLatch (s : State) (x : Nat) (v : Level) : (packChannel s x v).awaitLatch = s.awaitLatch := rfl
@[simp] theorem packChannel_target (s : State) (x : Nat) (v : Level) : (packChannel s x v).target = s.target := rfl
@[simp] theorem packChannel_actual (s : State) (x : Nat) (v : Level) : (packChannel s x v).actual = s.actual := rfl
@[simp] theorem packChannel_fadeOn (s : State) (x : Nat) (v : Level) : (packChannel s x v).fadeOn = s.fadeOn := rfl
@[simp] theorem packChannel_fadeOff (s : State) (x : Nat) (v : Level) : (packChannel s x v).fadeOff = s.fadeOff := rfl
@[simp] theorem packChannel_armed (s : State) (x : Nat) (v : Level) : (packChannel s x v).armed = s.armed := rfl
@[simp] theorem packChannel_faultCause (s : State) (x : Nat) (v : Level) : (packChannel s x v).faultCause = s.faultCause := rfl
@[simp] theorem packChannel_blankPin (s : State) (x : Nat) (v : Level) : (packChannel s x v).blankPin = s.blankPin := rfl
@[simp] theorem packChannel_vprgPin (s : State) (x : Nat) (v : Level) : (packChannel s x v).vprgPin = s.vprgPin := rfl
@[simp] theorem packChannel_out (s : State) (x : Nat) (v : Level) : (packChannel s x v).out = s.out := rfl
@[simp] theorem packChannel_resp (s : State) (x : Nat) (v : Level) : (packChannel s x v).resp = s.resp := rfl
@[simp] theorem packChannel_inputs (s : State) (x : Nat) (v : Level) : (packChannel s x v).inputs = s.inputs := rfl

/-! ### queueFrame -/

@[simp] theorem queueFrame_cfg (s : State) : (queueFrame s).cfg = s.cfg := rfl
@[simp] theorem queueFrame_wb (s : State) : (queueFrame s).wb = s.wb := rfl
@[simp] theorem queueFrame_tb (s : State) : (queueFrame s).tb = s.wb := rfl
@[simp] theorem queueFrame_pending (s : State) : (queueFrame s).pending = true := rfl
@[simp] theorem queueFrame_awaitLatch (s : State) : (queueFrame s).awaitLatch = s.awaitLatch := rfl
@[simp] theorem queueFrame_target (s : State) : (queueFrame s).target = s.target := rfl
@[simp] theorem queueFrame_actual (s : State) : (queueFrame s).actual = s.actual := rfl
@[simp] theorem queueFrame_fadeOn (s : State) : (queueFrame s).fadeOn = s.fadeOn := rfl
@[simp] theorem queueFrame_fadeOff (s : State) : (queueFrame s).fadeOff = s.fadeOff := rfl
@[simp] theorem queueFrame_armed (s : State) : (queueFrame s).armed = s.armed := rfl
@[simp] theorem queueFrame_faultCause (s : State) : (queueFrame s).faultCause = s.faultCause := rfl
@[simp] theorem queueFrame_blankPin (s : State) : (queueFrame s).blankPin = s.blankPin := rfl
@[simp] theorem queueFrame_vprgPin (s : State) : (queueFrame s).vprgPin = s.vprgPin := rfl
@[simp] theorem queueFrame_out (s : State) : (queueFrame s).out = s.out := rfl
@[simp] theorem queueFrame_resp (s : State) : (queueFrame s).resp = s.resp := rfl
@[simp] theorem queueFrame_inputs (s : State) : (queueFrame s).inputs = s.inputs := rfl

/-! ### writeFaded -/

@[simp] theorem writeFaded_cfg (s : State) (l : Nat) (n : Level) : (writeFaded s l n).cfg = s.cfg := rfl
@[simp] theorem writeFaded_wb (s : State) (l : Nat) (n : Level) : (writeFaded s l n).wb = pack s.wb (mapChannel s.cfg l) n := rfl
@[simp] theorem writeFaded_tb (s : State) (l : Nat) (n : Level) : (writeFaded s l n).tb = s.tb := rfl
@[simp] theorem writeFaded_pending (s : State) (l : Nat) (n : Level) : (writeFaded s l n).pending = s.pending := rfl
@[simp] theorem writeFaded_awaitLatch (s : State) (l : Nat) (n : Level) : (writeFaded s l n).awaitLatch = s.awaitLatch := rfl
@[simp] theorem writeFaded_target (s : State) (l : Nat) (n : Level) : (writeFaded s l n).target = s.target := rfl
@[simp] theorem writeFaded_actual (s : State) (l : Nat) (n : Level) : (writeFaded s l n).actual = s.actual.set l n := rfl
@[simp] theorem writeFaded_fadeOn (s : State) (l : Nat) (n : Level) : (writeFaded s l n).fadeOn = s.fadeOn := rfl
@[simp] theorem writeFaded_fadeOff (s : State) (l : Nat) (n : Level) : (writeFaded s l n).fadeOff = s.fadeOff := rfl
@[simp] theorem writeFaded_armed (s : State) (l : Nat) (n : Level) : (writeFaded s l n).armed = s.armed := rfl
@[simp] theorem writeFaded_faultCause (s : State) (l : Nat) (n : Level) : (writeFaded s l n).faultCause = s.faultCause := rfl
@[simp] theorem writeFaded_blankPin (s : State) (l : Nat) (n : Level) : (writeFaded s l n).blankPin = s.blankPin := rfl
@[simp] theorem writeFaded_vprgPin (s : State) (l : Nat) (n : Level) : (writeFaded s l n).vprgPin = s.vprgPin := rfl
@[simp] theorem writeFaded_out (s : State) (l : Nat) (n : Level) : (writeFaded s l n).out = s.out := rfl
@[simp] theorem writeFaded_resp (s : State) (l : Nat) (n : Level) : (writeFaded s l n).resp = s.resp := rfl
@[simp] theorem writeFaded_inputs (s : State) (l : Nat) (n : Level) : (writeFaded s l n).inputs = s.inputs := rfl

/-! ### setRates -/

@[simp] theorem setRates_cfg (s : State) (on off : Level) : (setRates s on off).cfg = s.cfg := rfl
@[simp] theorem setRates_wb (s : State) (on off : Level) : (setRates s on off).wb = s.wb := rfl
@[simp] theorem setRates_tb (s : State) (on off : Level) : (setRates s on off).tb = s.tb := rfl
@[simp] theorem setRates_pending (s : State) (on off : Level) : (setRates s on off).pending = s.pending := rfl
@[simp] theorem setRates_awaitLatch (s : State) (on off : Level) : (setRates s on off).awaitLatch = s.awaitLatch := rfl
@[simp] theorem setRates_target (s : State) (on off : Level) : (setRates s on off).target = s.target := rfl
@[simp] theorem setRates_actual (s : State) (on off : Level) : (setRates s on off).actual = s.actual := rfl
@[simp] theorem setRates_fadeOn (s : State) (on off : Level) : (setRates s on off).fadeOn = on := rfl
@[simp] theorem setRates_fadeOff (s : State) (on off : Level) : (setRates s on off).fadeOff = off := rfl
@[simp] theorem setRates_armed (s : State) (on off : Level) : (setRates s on off).armed = s.armed := rfl
@[simp] theorem setRates_faultCause (s : State) (on off : Level) : (setRates s on off).faultCause = s.faultCause := rfl
@[simp] theorem setRates_blankPin (s : State) (on off : Level) : (setRates s on off).blankPin = s.blankPin := rfl
@[simp] theorem setRates_vprgPin (s : State) (on off : Level) : (setRates s on off).vprgPin = s.vprgPin := rfl
@[simp] theorem setRates_out (s : State) (on off : Level) : (setRates s on off).out = s.out := rfl
@[simp] theorem setRates_resp (s : State) (on off : Level) : (setRates s on off).resp = s.resp := rfl
@[simp] theorem setRates_inputs (s : State) (on off : Level) : (setRates s on off).inputs = s.inputs := rfl

/-! ### arm -/

@[simp] theorem arm_cfg (s : State) : (arm s).cfg = s.cfg := rfl
@[simp] theorem arm_wb (s : State) : (arm s).wb = s.wb := rfl
@[simp] theorem arm_tb (s : State) : (arm s).tb = s.tb := rfl
@[simp] theorem arm_pending (s : State) : (arm s).pending = s.pending := rfl
@[simp] theorem arm_awaitLatch (s : State) : (arm s).awaitLatch = s.awaitLatch := rfl
@[simp] theorem arm_target (s : State) : (arm s).target = s.target := rfl
@[simp] theorem arm_actual (s : State) : (arm s).actual = s.actual := rfl
@[simp] theorem arm_fadeOn (s : State) : (arm s).fadeOn = s.fadeOn := rfl
@[simp] theorem arm_fadeOff (s : State) : (arm s).fadeOff = s.fadeOff := rfl
@[simp] theorem arm_armed (s : State) : (arm s).armed = true := rfl
@[simp] theorem arm_faultCause (s : State) : (arm s).faultCause = s.faultCause := rfl
@[simp] theorem arm_blankPin (s : State) : (arm s).blankPin = s.blankPin := rfl
@[simp] theorem arm_vprgPin (s : State) : (arm s).vprgPin = s.vprgPin := rfl
@[simp] theorem arm_out (s : State) : (arm s).out = s.out := rfl
@[simp] theorem arm_resp (s : State) : (arm s).resp = s.resp := rfl
@[simp] theorem arm_inputs (s : State) : (arm s).inputs = s.inputs := rfl

/-! ### State.take -/

@[simp] theorem State.take_cfg (s : State) (rest : List PortEvent) : (s.take rest).cfg = s.cfg := rfl
@[simp] theorem State.take_wb (s : State) (rest : List PortEvent) : (s.take rest).wb = s.wb := rfl
@[simp] theorem State.take_tb (s : State) (rest : List PortEvent) : (s.take rest).tb = s.tb := rfl
@[simp] theorem State.take_pending (s : State) (rest : List PortEvent) : (s.take rest).pending = s.pending := rfl
@[simp] theorem State.take_awaitLatch (s : State) (rest : List PortEvent) : (s.take rest).awaitLatch = s.awaitLatch := rfl
@[simp] theorem State.take_target (s : State) (rest : List PortEvent) : (s.take rest).target = s.target := rfl
@[simp] theorem State.take_actual (s : State) (rest : List PortEvent) : (s.take rest).actual = s.actual := rfl
@[simp] theorem State.take_fadeOn (s : State) (rest : List PortEvent) : (s.take rest).fadeOn = s.fadeOn := rfl
@[simp] theorem State.take_fadeOff (s : State) (rest : List PortEvent) : (s.take rest).fadeOff = s.fadeOff := rfl
@[simp] theorem State.take_armed (s : State) (rest : List PortEvent) : (s.take rest).armed = s.armed := rfl
@[simp] theorem State.take_faultCause (s : State) (rest : List PortEvent) : (s.take rest).faultCause = s.faultCause := rfl
@[simp] theorem State.take_blankPin (s : State) (rest : List PortEvent) : (s.take rest).blankPin = s.blankPin := rfl
@[simp] theorem State.take_vprgPin (s : State) (rest : List PortEvent) : (s.take rest).vprgPin = s.vprgPin := rfl
@[simp] theorem State.take_out (s : State) (rest : List PortEvent) : (s.take rest).out = s.out := rfl
@[simp] theorem State.take_resp (s : State) (rest : List PortEvent) : (s.take rest).resp = s.resp := rfl
@[simp] theorem State.take_inputs (s : State) (rest : List PortEvent) : (s.take rest).inputs = rest := rfl

/-! ### State.deliver -/

@[simp] theorem State.deliver_cfg (s : State) (e : PortEvent) : (s.deliver e).cfg = s.cfg := rfl
@[simp] theorem State.deliver_wb (s : State) (e : PortEvent) : (s.deliver e).wb = s.wb := rfl
@[simp] theorem State.deliver_tb (s : State) (e : PortEvent) : (s.deliver e).tb = s.tb := rfl
@[simp] theorem State.deliver_pending (s : State) (e : PortEvent) : (s.deliver e).pending = s.pending := rfl
@[simp] theorem State.deliver_awaitLatch (s : State) (e : PortEvent) : (s.deliver e).awaitLatch = s.awaitLatch := rfl
@[simp] theorem State.deliver_target (s : State) (e : PortEvent) : (s.deliver e).target = s.target := rfl
@[simp] theorem State.deliver_actual (s : State) (e : PortEvent) : (s.deliver e).actual = s.actual := rfl
@[simp] theorem State.deliver_fadeOn (s : State) (e : PortEvent) : (s.deliver e).fadeOn = s.fadeOn := rfl
@[simp] theorem State.deliver_fadeOff (s : State) (e : PortEvent) : (s.deliver e).fadeOff = s.fadeOff := rfl
@[simp] theorem State.deliver_armed (s : State) (e : PortEvent) : (s.deliver e).armed = s.armed := rfl
@[simp] theorem State.deliver_faultCause (s : State) (e : PortEvent) : (s.deliver e).faultCause = s.faultCause := rfl
@[simp] theorem State.deliver_blankPin (s : State) (e : PortEvent) : (s.deliver e).blankPin = s.blankPin := rfl
@[simp] theorem State.deliver_vprgPin (s : State) (e : PortEvent) : (s.deliver e).vprgPin = s.vprgPin := rfl
@[simp] theorem State.deliver_out (s : State) (e : PortEvent) : (s.deliver e).out = s.out := rfl
@[simp] theorem State.deliver_resp (s : State) (e : PortEvent) : (s.deliver e).resp = s.resp := rfl
@[simp] theorem State.deliver_inputs (s : State) (e : PortEvent) : (s.deliver e).inputs = e :: s.inputs := rfl

@[simp] theorem State.powerUp_cfg (s : State) : s.powerUp.cfg = s.cfg := rfl
@[simp] theorem State.powerUp_inputs (s : State) : s.powerUp.inputs = s.inputs := rfl
@[simp] theorem State.powerUp_armed (s : State) : s.powerUp.armed = false := rfl
@[simp] theorem State.powerUp_faultCause (s : State) : s.powerUp.faultCause = 0#4 := rfl

end Sys2Proof.Machine
end

