-- ==== Sys2Proof/Laws/HostSide.lean ====
section
/-! SUPPORT. How a schedule of the two agents runs, and what one turn of POLL's loop can do. -/

namespace Sys2Proof.Machine

@[simp] theorem andThen_next {σ τ : Type} (s : σ) (f : σ → Host.Outcome τ Fault Refusal) :
    andThen (.next s) f = f s := rfl

@[simp] theorem Session.run_nil (p : Session) : Session.run [] p = .next p := rfl

theorem Session.run_cons (a : Agent) (rest : List Agent) (p : Session) :
    Session.run (a :: rest) p = andThen (p.agentTurn a) (Session.run rest) := rfl

/-- A schedule in two parts runs the one and then the other. -/
theorem Session.run_append (xs ys : List Agent) (p : Session) :
    Session.run (xs ++ ys) p = andThen (Session.run xs p) (Session.run ys) := by
  induction xs generalizing p with
  | nil => rfl
  | cons a xs ih =>
    rw [List.cons_append, run_cons, run_cons]
    cases p.agentTurn a with
    | next q => exact ih q
    | fault r => rfl
    | refused r => rfl

/-- POLL's loop goes on after a 0 and is left after a 1 (30_encoding.md R122). -/
theorem afterPoll_eq {s : State} {bits : List Bool} {b : Bool} (h : s.resp = bits ++ [b]) (rest : List HostAction) :
    afterPoll s rest = if b then rest else .pollLoop :: rest := by
  cases b <;> simp [afterPoll, lastAnswer, h]

/-- A request's word runs REQ on the block, and the deliveries to come stay as they are. -/
theorem requestOnce_eq (s : State) : requestOnce s = exec .req s := by
  have h : decodeCommand (encode .req) = .ok .req := by decide
  show commandTurn (encode .req) s = exec .req s
  unfold commandTurn
  rw [h]

end Sys2Proof.Machine
end

