-- ==== Sys2Proof/Laws/Memory.lean ====
section
/-! SUPPORT. Buffer bytes: reading after writing, the canonical form, and extensionality. -/

namespace Sys2Proof.Machine

@[simp] theorem Memory.read_nil (k : Nat) : Memory.read [] k = 0#8 := rfl

@[simp] theorem Memory.wf_nil (bytes : Nat) : Memory.wf bytes [] = true := rfl

theorem Memory.wfFrom_cons {bytes lo a : Nat} {v : Byte} {rest : Memory} :
    Memory.wfFrom bytes lo ((a, v) :: rest) = true ↔
      lo ≤ a ∧ a < bytes ∧ v ≠ 0#8 ∧ Memory.wfFrom bytes (a + 1) rest = true := by
  simp [Memory.wfFrom, and_assoc]

theorem Memory.wfFrom_mono {bytes lo lo' : Nat} {m : Memory} (h : Memory.wfFrom bytes lo' m = true) (hl : lo ≤ lo') :
    Memory.wfFrom bytes lo m = true := by
  cases m with
  | nil => rfl
  | cons c rest =>
    obtain ⟨a, v⟩ := c
    rw [Memory.wfFrom_cons] at h ⊢
    exact ⟨hl.trans h.1, h.2⟩

/-- Below the first possible address everything reads as 0x00. -/
theorem Memory.read_of_lt {bytes lo k : Nat} {m : Memory} (h : Memory.wfFrom bytes lo m = true) (hk : k < lo) :
    m.read k = 0#8 := by
  induction m generalizing lo with
  | nil => rfl
  | cons c rest ih =>
    obtain ⟨a, v⟩ := c
    rw [Memory.wfFrom_cons] at h
    have hne : a ≠ k := by omega
    simp only [Memory.read, if_neg hne]
    exact ih h.2.2.2 (by omega)

/-- Past the end of the buffer nothing is listed. -/
theorem Memory.read_of_bytes_le {bytes lo k : Nat} {m : Memory} (h : Memory.wfFrom bytes lo m = true) (hk : bytes ≤ k) :
    m.read k = 0#8 := by
  induction m generalizing lo with
  | nil => rfl
  | cons c rest ih =>
    obtain ⟨a, v⟩ := c
    rw [Memory.wfFrom_cons] at h
    have hne : a ≠ k := by omega
    simp only [Memory.read, if_neg hne]
    exact ih h.2.2.2

/-- A write changes the byte it names and no other. -/
theorem Memory.read_write {bytes lo : Nat} {m : Memory} (h : Memory.wfFrom bytes lo m = true) (k : Nat) (b : Byte)
    (j : Nat) : (m.write k b).read j = if k = j then b else m.read j := by
  induction m generalizing lo with
  | nil =>
    unfold Memory.write
    split_ifs with hb hj hj <;> simp_all [Memory.read]
  | cons c rest ih =>
    obtain ⟨a, v⟩ := c
    rw [Memory.wfFrom_cons] at h
    obtain ⟨-, -, -, hrest⟩ := h
    have below : ∀ i < a + 1, Memory.read rest i = 0#8 := fun i hi => Memory.read_of_lt hrest hi
    rcases Nat.lt_trichotomy k a with hlt | rfl | hgt
    · by_cases hj : k = j
      · subst hj
        by_cases hb : b = 0#8
        · simp [Memory.write, Memory.read, hlt, hb, below k (by omega), show a ≠ k by omega]
        · simp [Memory.write, Memory.read, hlt, hb]
      · by_cases hb : b = 0#8 <;> simp [Memory.write, Memory.read, hlt, hb, hj]
    · by_cases hj : k = j
      · subst hj
        by_cases hb : b = 0#8
        · simp [Memory.write, hb, below k (by omega)]
        · simp [Memory.write, Memory.read, hb]
      · by_cases hb : b = 0#8 <;> simp [Memory.write, Memory.read, hb, hj]
    · have h1 : ¬ k < a := by omega
      have h2 : k ≠ a := by omega
      simp only [Memory.write, if_neg h1, if_neg h2, Memory.read]
      by_cases ha : a = j
      · simp [ha, show k ≠ j by omega]
      · simp only [if_neg ha]
        exact ih hrest

theorem Memory.read_write_same {bytes : Nat} {m : Memory} (h : m.wf bytes = true) (k : Nat) (b : Byte) :
    (m.write k b).read k = b := by simp [Memory.read_write h]

theorem Memory.read_write_other {bytes : Nat} {m : Memory} (h : m.wf bytes = true) {k j : Nat} (b : Byte)
    (hj : k ≠ j) : (m.write k b).read j = m.read j := by simp [Memory.read_write h, hj]

theorem Memory.wfFrom_write {bytes lo k : Nat} {m : Memory} (h : Memory.wfFrom bytes lo m = true) (b : Byte)
    (hlo : lo ≤ k) (hk : k < bytes) : Memory.wfFrom bytes lo (m.write k b) = true := by
  induction m generalizing lo with
  | nil =>
    unfold Memory.write
    split_ifs with hb
    · rfl
    · rw [Memory.wfFrom_cons]
      exact ⟨hlo, hk, hb, rfl⟩
  | cons c rest ih =>
    obtain ⟨a, v⟩ := c
    have h0 := h
    rw [Memory.wfFrom_cons] at h
    obtain ⟨h1, h2, h3, h4⟩ := h
    unfold Memory.write
    split_ifs with hlt hb heq hb
    · exact h0
    · rw [Memory.wfFrom_cons, Memory.wfFrom_cons]
      exact ⟨hlo, hk, hb, by omega, h2, h3, h4⟩
    · exact Memory.wfFrom_mono h4 (by omega)
    · rw [Memory.wfFrom_cons]
      exact ⟨hlo, hk, hb, heq ▸ h4⟩
    · rw [Memory.wfFrom_cons]
      exact ⟨h1, h2, h3, ih h4 (by omega)⟩

/-- Writing inside the buffer keeps the canonical form. -/
theorem Memory.wf_write {bytes k : Nat} {m : Memory} (h : m.wf bytes = true) (b : Byte) (hk : k < bytes) :
    (m.write k b).wf bytes = true := Memory.wfFrom_write h b (Nat.zero_le k) hk

theorem Memory.ext_of_wfFrom {bytes lo : Nat} {m n : Memory} (hm : Memory.wfFrom bytes lo m = true)
    (hn : Memory.wfFrom bytes lo n = true) (h : ∀ k, m.read k = n.read k) : m = n := by
  induction m generalizing lo n with
  | nil =>
    cases n with
    | nil => rfl
    | cons c rest =>
      obtain ⟨a, v⟩ := c
      rw [Memory.wfFrom_cons] at hn
      exact absurd (by simpa [Memory.read] using (h a).symm) hn.2.2.1
  | cons c rest ih =>
    obtain ⟨a, v⟩ := c
    rw [Memory.wfFrom_cons] at hm
    cases n with
    | nil => exact absurd (by simpa [Memory.read] using h a) hm.2.2.1
    | cons d rest' =>
      obtain ⟨a', v'⟩ := d
      rw [Memory.wfFrom_cons] at hn
      have haa : a = a' := by
        rcases Nat.lt_trichotomy a a' with hlt | heq | hgt
        · have := h a
          rw [Memory.read, if_pos rfl, Memory.read, if_neg (by omega),
            Memory.read_of_lt hn.2.2.2 (by omega)] at this
          exact absurd this hm.2.2.1
        · exact heq
        · have := h a'
          rw [Memory.read, if_neg (by omega), Memory.read, if_pos rfl,
            Memory.read_of_lt hm.2.2.2 (by omega)] at this
          exact absurd this.symm hn.2.2.1
      subst haa
      have hv : v = v' := by simpa [Memory.read] using h a
      subst hv
      refine congrArg _ (ih hm.2.2.2 hn.2.2.2 fun k => ?_)
      by_cases hk : k ≤ a
      · rw [Memory.read_of_lt hm.2.2.2 (by omega), Memory.read_of_lt hn.2.2.2 (by omega)]
      · have := h k
        rwa [Memory.read, if_neg (by omega), Memory.read, if_neg (by omega)] at this

/-- Canonical buffers that read alike are the same data. -/
theorem Memory.ext_of_wf {bytes : Nat} {m n : Memory} (hm : m.wf bytes = true) (hn : n.wf bytes = true)
    (h : ∀ k < bytes, m.read k = n.read k) : m = n :=
  Memory.ext_of_wfFrom hm hn fun k =>
    if hk : k < bytes then h k hk
    else by rw [Memory.read_of_bytes_le hm (by omega), Memory.read_of_bytes_le hn (by omega)]

end Sys2Proof.Machine
end

