-- ==== Sys2Proof/Laws/Ops.lean ====
section
/-! SUPPORT. What each shared operation can do, said once: the packer, the streams, recording a fault, CoordinatorUpdate,
the fade loop and the steps of the output handler. -/

namespace Sys2Proof.Machine

/-! ### The packer -/

/-- Both bytes of a channel below T lie in the buffer (20_memory.md R78). -/
theorem packBase_succ_lt {c : Config} {i : Nat} (h : i < c.channels) : packBase i + 1 < c.bufferBytes := by
  rw [Config.channels_eq] at h
  unfold packBase Config.bufferBytes
  omega

theorem pack_wf {c : Config} {x : Memory} (h : x.wf c.bufferBytes = true) {i : Nat} (hi : i < c.channels) (v : Level) :
    (pack x i v).wf c.bufferBytes = true := by
  have := packBase_succ_lt hi
  unfold pack
  split_ifs
  · exact Memory.wf_write (Memory.wf_write h _ (by omega)) _ this
  · exact Memory.wf_write (Memory.wf_write h _ (by omega)) _ this

/-! ### Streams -/

@[simp] theorem msbFirst_length {n : Nat} (v : BitVec n) : (msbFirst v).length = n := by simp [msbFirst]

@[simp] theorem gsStream_length (bytes : Nat) (x : Memory) : (gsStream bytes x).length = 8 * bytes := by
  simp [gsStream, List.length_flatMap, Nat.mul_comm]

@[simp] theorem dcStream_length (c : Config) : (dcStream c).length = c.correctionBits := by
  simp [dcStream, List.length_flatMap, Config.correctionBits, Config.channels_eq]
  omega

theorem eight_mul_bufferBytes (c : Config) : 8 * c.bufferBytes = c.frameBits := by
  unfold Config.bufferBytes Config.frameBits
  omega

/-! ### Recording a fault -/

theorem faultNumber_ne_zero (c : FaultCode) : faultNumber c ≠ 0#4 := by cases c <;> decide

theorem recordedCause_cases (cause : BitVec 4) (c : FaultCode) :
    (cause = 0#4 ∧ recordedCause cause c = faultNumber c) ∨ (cause ≠ 0#4 ∧ recordedCause cause c = cause) := by
  unfold recordedCause
  split_ifs with h
  · exact .inl ⟨h, rfl⟩
  · exact .inr ⟨h, rfl⟩

/-! ### CoordinatorUpdate -/

/-- A CoordinatorUpdate is refused and changes nothing, or is accepted and queues the write buffer. -/
theorem coordinatorUpdate_cases (s : State) :
    (s.pending = true ∧ coordinatorUpdate s = (s, false)) ∨
      (s.pending = false ∧ coordinatorUpdate s = (queueFrame s, true)) := by
  unfold coordinatorUpdate acceptsUpdate
  cases h : s.pending
  · exact .inr ⟨rfl, by simp⟩
  · exact .inl ⟨rfl, by simp⟩

/-! ### The fade loop -/

/-- One iteration leaves the pair alone, where the channel does not change, or writes the channel and marks it changed. -/
theorem fadeChannel_cases (p : State × Bool) (l : Nat) :
    (fadeLevel p.1.fadeOn p.1.fadeOff (levelAt p.1.actual l) (levelAt p.1.target l) = levelAt p.1.actual l ∧
        fadeChannel p l = p) ∨
      (fadeLevel p.1.fadeOn p.1.fadeOff (levelAt p.1.actual l) (levelAt p.1.target l) ≠ levelAt p.1.actual l ∧
        fadeChannel p l =
          (writeFaded p.1 l (fadeLevel p.1.fadeOn p.1.fadeOff (levelAt p.1.actual l) (levelAt p.1.target l)), true)) := by
  unfold fadeChannel
  by_cases h : fadeLevel p.1.fadeOn p.1.fadeOff (levelAt p.1.actual l) (levelAt p.1.target l) = levelAt p.1.actual l
  · exact .inl ⟨h, by simp [h]⟩
  · exact .inr ⟨h, by simp [h]⟩

/-- The loop writes ACTUAL and WB, and nothing else. -/
theorem foldl_fadeChannel_eq (order : List Nat) (p : State × Bool) :
    (order.foldl fadeChannel p).1 =
      { p.1 with actual := (order.foldl fadeChannel p).1.actual, wb := (order.foldl fadeChannel p).1.wb } := by
  induction order generalizing p with
  | nil => rfl
  | cons l order ih =>
    rw [List.foldl_cons, ih]
    obtain ⟨-, h⟩ | ⟨-, h⟩ := fadeChannel_cases p l
    · rw [h]
    · rw [h]; rfl

theorem fadeAll_eq (s : State) : (fadeAll s).1 = { s with actual := (fadeAll s).1.actual, wb := (fadeAll s).1.wb } :=
  foldl_fadeChannel_eq _ _

/-- FadeStep leaves the loop's state as it is, or queues its write buffer. -/
theorem fadeStep_cases (s : State) :
    (((fadeAll s).2 = false ∨ s.pending = true) ∧ fadeStep s = (fadeAll s).1) ∨
      ((fadeAll s).2 = true ∧ s.pending = false ∧ fadeStep s = queueFrame (fadeAll s).1) := by
  have hp : (fadeAll s).1.pending = s.pending := by rw [fadeAll_eq]
  unfold fadeStep
  cases h : (fadeAll s).2
  · exact .inl ⟨.inl rfl, by simp⟩
  · obtain ⟨h1, h2⟩ | ⟨h1, h2⟩ := coordinatorUpdate_cases (fadeAll s).1
    · exact .inl ⟨.inr (hp ▸ h1), by simp [h2]⟩
    · exact .inr ⟨rfl, hp ▸ h1, by simp [h2]⟩

/-! ### The output handler -/

theorem blankLatchUnblank_eq (s : State) :
    blankLatchUnblank s =
      { s with
        out := s.out ++ ([.blank true] ++ (if s.awaitLatch then [.latch] else []) ++ [.blank false])
        blankPin := false
        awaitLatch := false } := by
  unfold blankLatchUnblank latchStep
  cases h : s.awaitLatch <;> simp [State.driveBlank, State.emit, h]

theorem shiftStep_eq (s : State) :
    shiftStep s =
      { s with
        out := s.out ++ (if s.pending then (gsStream s.cfg.bufferBytes s.tb).map .bit else [])
        pending := false
        awaitLatch := s.pending || s.awaitLatch } := by
  unfold shiftStep
  cases h : s.pending <;> cases s <;> simp_all [State.shiftBits, State.emit]

theorem fadeIfEnabled_cases (s : State) :
    (s.cfg.fadeEnabled = true ∧ fadeIfEnabled s = fadeStep s) ∨ (s.cfg.fadeEnabled = false ∧ fadeIfEnabled s = s) := by
  unfold fadeIfEnabled
  cases s.cfg.fadeEnabled
  · exact .inr ⟨rfl, rfl⟩
  · exact .inl ⟨rfl, rfl⟩

/-- What step 4 can write (44_fade.md R240): ACTUAL, WB, and through an accepted CoordinatorUpdate TB and PENDING. -/
theorem fadeIfEnabled_eq (s : State) :
    fadeIfEnabled s =
      { s with
        actual := (fadeIfEnabled s).actual
        wb := (fadeIfEnabled s).wb
        tb := (fadeIfEnabled s).tb
        pending := (fadeIfEnabled s).pending } := by
  obtain ⟨-, h⟩ | ⟨-, h⟩ := fadeIfEnabled_cases s
  · rw [h]
    obtain ⟨-, h⟩ | ⟨-, -, h⟩ := fadeStep_cases s
    · rw [h, fadeAll_eq]
    · rw [h]
      unfold queueFrame
      rw [fadeAll_eq]
  · rw [h]

end Sys2Proof.Machine
end

