-- ==== Sys2Proof/Laws/PerInstr.lean ====
section
/-! SUPPORT. Laws said once per operation: an operation's word carries its own opcode. -/

namespace Sys2Proof

/-- The opcode field of a word built from an opcode and 28 further bits is that opcode. -/
theorem opcodeField_append (op : BitVec 4) (x : BitVec 28) : opcodeField (op ++ x) = op := by
  rw [← BitVec.toNat_inj]
  have := x.isLt
  simp only [opcodeField, BitVec.extractLsb'_toNat, BitVec.toNat_append, Nat.shiftLeft_eq]
  rw [← Nat.shiftLeft_eq, ← Nat.shiftLeft_add_eq_or_of_lt this, Nat.shiftLeft_eq, Nat.shiftRight_eq_div_pow]
  have := op.isLt
  omega

end Sys2Proof

namespace Sys2Proof.Laws

/-- The word of an operation has the operation's opcode in bits [31:28] (30_encoding.md R101, R105–R109). -/
def OpcodeField.Statement (i : Instr) : Prop := opcodeField (encode i) = i.opcode

theorem OpcodeField.init : OpcodeField.Statement .init := opcodeField_append _ _

theorem OpcodeField.setb (ch : BitVec 12) (val : BitVec 16) : OpcodeField.Statement (.setb ch val) := by
  have h : encode (.setb ch val) = Instr.opcode (.setb ch val) ++ (ch ++ val) := BitVec.append_assoc ..
  unfold OpcodeField.Statement
  rw [h]
  exact opcodeField_append _ _

theorem OpcodeField.setf (on off : BitVec 12) : OpcodeField.Statement (.setf on off) := by
  have h : encode (.setf on off) = (0x3#4 ++ 0#4 ++ on ++ off : BitVec 32) := rfl
  unfold OpcodeField.Statement opcodeField
  rw [h]
  show _ = 0x3#4
  refine BitVec.eq_of_getLsbD_eq fun k hk => ?_
  rw [BitVec.getLsbD_extractLsb', BitVec.getLsbD_append, BitVec.getLsbD_append, if_neg (by omega), if_neg (by omega)]
  interval_cases k <;> rfl

theorem OpcodeField.req : OpcodeField.Statement .req := opcodeField_append _ _

theorem OpcodeField.tick : OpcodeField.Statement .tick := opcodeField_append _ _

end Sys2Proof.Laws
end

