-- ==== Sys2Proof/Laws/Step.lean ====
section
/-! SUPPORT. Everything one step can do, said once. -/

namespace Sys2Proof.Machine

/-- What a step with a next state is: nothing delivered; a bad word recorded; a command executed; a turn of the timing
source that passes; or a TICK. -/
theorem step_cases {s t : State} (h : step s = .next t) :
    (s.inputs = [] ∧ t = s) ∨
    (∃ w rest c, s.inputs = .command w :: rest ∧ decodeCommand w = .bad c ∧
      t = (s.take rest).raiseFault c (wordAnswers w)) ∨
    (∃ w rest i, s.inputs = .command w :: rest ∧ decodeCommand w = .ok i ∧ exec i (s.take rest) = .next t) ∨
    (∃ rest, s.inputs = .tick tickWord :: rest ∧ s.armed = false ∧ t = s.take rest) ∨
    (∃ rest, s.inputs = .tick tickWord :: rest ∧ s.armed = true ∧ exec .tick (s.take rest) = .next t) := by
  unfold step at h
  split at h
  · next hi => exact .inl ⟨hi, by injection h with h; exact h.symm⟩
  · next w rest hi =>
    unfold commandTurn at h
    split at h
    · next i hd => exact .inr (.inr (.inl ⟨w, rest, i, hi, hd, h⟩))
    · next c hd => exact .inr (.inl ⟨w, rest, c, hi, hd, by injection h with h; exact h.symm⟩)
  · next w rest hi =>
    unfold tickTurn decodeTick at h
    by_cases hw : w = tickWord
    · subst hw
      cases ha : s.armed
      · simp only [if_true, State.take_armed, ha] at h
        exact .inr (.inr (.inr (.inl ⟨rest, hi, rfl, by injection h with h; exact h.symm⟩)))
      · simp only [if_true, State.take_armed, ha] at h
        exact .inr (.inr (.inr (.inr ⟨rest, hi, rfl, h⟩)))
    · simp [hw] at h

/-- What executing an operation to a next state is, operation by operation. -/
theorem exec_cases {i : Instr} {s t : State} (h : exec i s = .next t) :
    (i = .init ∧ s.armed = true ∧ t = s.raiseFault .reinit false) ∨
    (i = .init ∧ s.armed = false ∧ t = arm (seedGrayscale (writeDotCorrection s))) ∨
    ((∃ ch val, i = .setb ch val) ∧ s.armed = false ∧ t = s.raiseFault .notInitialized false) ∨
    (∃ ch val, i = .setb ch val ∧ s.armed = true ∧ s.cfg.fadeEnabled = true ∧
      t = setTarget s (channelOperand s.cfg ch) (brightnessOperand val)) ∨
    (∃ ch val, i = .setb ch val ∧ s.armed = true ∧ s.cfg.fadeEnabled = false ∧
      t = packChannel s ch.toNat (brightnessOperand val)) ∨
    ((∃ on off, i = .setf on off) ∧ s.armed = false ∧ t = s.raiseFault .notInitialized false) ∨
    (∃ on off, i = .setf on off ∧ s.armed = true ∧ t = setRates s on off) ∨
    (i = .req ∧ s.armed = false ∧ t = s.raiseFault .notInitialized true) ∨
    (i = .req ∧ s.armed = true ∧ t = (coordinatorUpdate s).1.respond (coordinatorUpdate s).2) ∨
    (i = .tick ∧ s.armed = true ∧ t = outputHandler s) := by
  cases i with
  | init =>
    unfold exec execInit at h
    cases ha : s.armed <;> simp [ha] at h <;> simp [h]
  | setb ch val =>
    unfold exec execSetb at h
    cases ha : s.armed <;> cases hf : s.cfg.fadeEnabled <;> simp [ha, hf] at h <;> simp [h]
  | setf on off =>
    unfold exec execSetf rateOperand at h
    cases ha : s.armed <;> simp [ha] at h <;> simp [h]
  | req =>
    unfold exec execReq at h
    cases ha : s.armed <;> simp [ha] at h <;> simp [h]
  | tick =>
    unfold exec execTick at h
    cases ha : s.armed <;> simp [ha] at h
    simp [h]

end Sys2Proof.Machine
end

