-- ==== Sys2Proof/Tests/Slice0.lean ====
section
/-! SUPPORT. Tests. Expected results are the spec's own vectors (95_test_vectors.md) or are worked out by hand from its
rules, as each comment says. The second half gives, for every obligation with hypotheses, a concrete state and operands
that meet them. -/

namespace Sys2Proof.Tests

open Sys2Proof Sys2Proof.Machine

-- One theorem at a time: many kernel evaluations waiting for each other would each hold a thread.
set_option Elab.async false

/-! ### Helpers: a one-device configuration and small states -/

/-- One device; the wiring swap 1 ↔ 2; the spec's other table LOCAL_PERM[j] = (16 − j) mod 16 (95_test_vectors.md 2.2);
rates 30 and 40; DC_TABLE[l] = 4 l + 3. -/
def smallRaw (fade : Bool) : RawConfig where
  deviceCount := 1
  fadeEnabled := fade
  swaps := [(1, 2)]
  localPerm := [0, 15, 14, 13, 12, 11, 10, 9, 8, 7, 6, 5, 4, 3, 2, 1]
  fadeOnDefault := 30#12
  fadeOffDefault := 40#12
  dcTable := (List.range 16).map fun l => BitVec.ofNat 6 (4 * l + 3)

theorem smallRaw_wf (fade : Bool) : (smallRaw fade).wf = true := by cases fade <;> decide +kernel

/-- The one-device configuration. -/
def small (fade : Bool) : Config := ⟨smallRaw fade, smallRaw_wf fade⟩

/-- Reset of the one-device block. -/
def off (fade : Bool) : State := State.resetWith (small fade)

/-- Launch premise of the tests: reset, but with ARMED = 1, BLANK_PIN as a TICK leaves it and a trace that is empty. -/
def ready (fade : Bool) : State := { off fade with armed := true, blankPin := false }

/-- A ready fade-variant block with channel 0 fading up, channel 1 fading down and channel 2 settled. -/
def fading : State :=
  { ready true with
    target := [100#12, 10#12, 70#12] ++ List.replicate 13 0#12
    actual := [0#12, 100#12, 70#12] ++ List.replicate 13 0#12 }

/-- A ready direct-variant block with a frame pending: the first bit of TB is 1. -/
def queued : State := { ready false with tb := [(0, 0x80#8)], wb := [(0, 0x7F#8)], pending := true }

/-- The state a next outcome holds. -/
def after (o : Host.Outcome State Fault Refusal) : Option State :=
  match o with
  | .next s => some s
  | .fault _ => none
  | .refused _ => none

/-- One word on the command port of `s`, and nothing else delivered. -/
def sent (w : Word) (s : State) : State := { s with inputs := [.command w] }

/-- One word on the tick port of `s`, and nothing else delivered. -/
def ticked (w : Word) (s : State) : State := { s with inputs := [.tick w] }

/-- The vectors' configuration (00_scope.md R9), with rates that no vector relies on. -/
def reference (fade : Bool) : Config := Config.vectors fade 1#12 1#12

/-- The vectors' block, ready. -/
def referenceReady (fade : Bool) : State := { State.resetWith (reference fade) with armed := true }

/-- A power-up chain of one device: ones in every register, so that a claim cannot rest on zeros. -/
def onesChain : Chain where
  devices := 1
  gsShift := List.replicate 192 true
  gsLatch := List.replicate 192 true
  dcShift := List.replicate 96 true
  dcLatch := List.replicate 96 true
  blank := true
  vprg := false

/-! ### WellFormed: an ill-formed term for each check -/

/-- 30_encoding.md R109: TICK is not a host command. -/
theorem test_wf_tick_not_on_command_port : Instr.wellFormed .command .tick = false := by decide

/-- 30_encoding.md R100: the tick port carries only TICK. -/
theorem test_wf_commands_not_on_tick_port :
    Instr.wellFormed .tick .init = false ∧ Instr.wellFormed .tick (.setb 0#12 0#16) = false ∧
      Instr.wellFormed .tick (.setf 0#12 0#12) = false ∧ Instr.wellFormed .tick .req = false := by decide

/-- 30_encoding.md R121, both ends of `ch`, `on`, `off`. -/
theorem test_wf_unsigned_range :
    wellFormedUnsigned (-1) = false ∧ wellFormedUnsigned 0 = true ∧ wellFormedUnsigned 4095 = true ∧
      wellFormedUnsigned 4096 = false := by decide

/-- 30_encoding.md R121, both ends of `val`. -/
theorem test_wf_value_range :
    wellFormedValue (-32769) = false ∧ wellFormedValue (-32768) = true ∧ wellFormedValue 32767 = true ∧
      wellFormedValue 32768 = false := by decide

/-- 00_scope.md R5: N = 0 and N = 257. -/
theorem test_wf_device_count :
    ({ smallRaw true with deviceCount := 0 } : RawConfig).firstError = .deviceCount ∧
      ({ smallRaw true with deviceCount := 257 } : RawConfig).firstError = .deviceCount := by decide +kernel

/-- 95_test_vectors.md 2.2: N = 5 with the default SWAPS (index 90 ≥ 80, R143). -/
theorem test_wf_swap_index :
    ({ smallRaw true with deviceCount := 5, swaps := Config.defaultSwaps } : RawConfig).firstError = .swapIndex := by
  decide +kernel

/-- 40_mapper.md R147: 0 in SWAPS. -/
theorem test_wf_swap_of_zero : ({ smallRaw true with swaps := [(3, 0)] } : RawConfig).firstError = .swapOfZero := by
  decide +kernel

/-- 40_mapper.md R144: a table of 15 entries. -/
theorem test_wf_perm_length :
    ({ smallRaw true with localPerm := (smallRaw true).localPerm.take 15 } : RawConfig).firstError = .localPermLength := by
  decide +kernel

/-- 95_test_vectors.md 2.2: LOCAL_PERM with a repeated entry (R144). -/
theorem test_wf_perm_repeats :
    ({ smallRaw true with localPerm := List.replicate 16 0 } : RawConfig).firstError = .localPermRepeats := by
  decide +kernel

/-- 95_test_vectors.md 2.2: LOCAL_PERM[0] = 3 (R147). -/
theorem test_wf_perm_of_zero :
    ({ smallRaw true with localPerm := [3, 1, 2, 0, 4, 5, 6, 7, 8, 9, 10, 11, 12, 13, 14, 15] } : RawConfig).firstError =
      .localPermOfZero := by decide +kernel

/-- 00_scope.md R6: DC_TABLE with an entry too few. -/
theorem test_wf_dc_length :
    ({ smallRaw true with dcTable := List.replicate 15 63#6 } : RawConfig).wf = false ∧
      ({ smallRaw true with dcTable := List.replicate 15 63#6 } : RawConfig).firstError = .dcTableLength := by
  decide +kernel

/-! ### Decoding: words written out from 30_encoding.md -/

/-- R105 and R108: opcode 0001 or 0100, then 28 zeros. -/
theorem test_decode_no_operand :
    decodeCommand 0b00010000000000000000000000000000#32 = .ok .init ∧
      decodeCommand 0b01000000000000000000000000000000#32 = .ok .req := by decide

/-- R106: 0010, ch in twelve bits, val in sixteen: SETB 5, 1000 (95_test_vectors.md 2.4) and SETB 4095, −32768 (2.1). -/
theorem test_decode_setb :
    decodeCommand 0b00100000000001010000001111101000#32 = .ok (.setb 5#12 1000#16) ∧
      decodeCommand 0b00101111111111111000000000000000#32 = .ok (.setb 4095#12 0x8000#16) := by decide

/-- R107: 0011 0000, on in twelve bits, off in twelve. -/
theorem test_decode_setf :
    decodeCommand 0b00110000000000000001100000000010#32 = .ok (.setf 1#12 0x802#12) ∧
      decodeCommand 0x30FFFFFF#32 = .ok (.setf 4095#12 4095#12) := by decide

/-- R109: 0111 and 28 zeros, on the tick port only. -/
theorem test_decode_tick :
    decodeTick 0b01110000000000000000000000000000#32 = some .tick ∧ decodeTick 0x70000001#32 = none ∧
      decodeCommand 0x70000000#32 = .bad .illegalCommand := by decide

/-- 95_test_vectors.md 2.1, the words that decode to no operation. -/
theorem test_decode_bad :
    decodeCommand 0x00000000#32 = .bad .illegalCommand ∧ decodeCommand 0x10000001#32 = .bad .reservedBits ∧
      decodeCommand 0x3F000000#32 = .bad .reservedBits ∧ decodeCommand 0x40000001#32 = .bad .reservedBits ∧
      decodeCommand 0x50000000#32 = .bad .illegalCommand ∧ decodeCommand 0xF0000000#32 = .bad .illegalCommand := by
  decide

/-- The words of 30_encoding.md R120's table and of 95_test_vectors.md 2.4. -/
theorem test_encode :
    encode .init = 0x10000000#32 ∧ encode (.setb 111#12 (-5)) = 0x206FFFFB#32 ∧
      encode (.setf 30#12 30#12) = 0x3001E01E#32 ∧ encode .req = 0x40000000#32 ∧ encode .tick = 0x70000000#32 := by
  decide

/-- spec/opcode_table.json: each row's word, SETB's and SETF's with operand bits zero. -/
theorem test_decode_table_word :
    decodeTableWord 32 0x10000000 = some .init ∧ decodeTableWord 32 0x20000000 = some (.setb 0#12 0#16) ∧
      decodeTableWord 32 0x30000000 = some (.setf 0#12 0#12) ∧ decodeTableWord 32 0x40000000 = some .req ∧
      decodeTableWord 32 0x70000000 = some .tick ∧ decodeTableWord 32 0x50000000 = none := by decide

/-! ### Source text (30_encoding.md R120–R124) -/

/-- A label, an operation, a comment and a hexadecimal operand; the repeated tick; and a line that is not one. -/
theorem test_parse :
    parseLine ['l', 'p', ':', ' ', 'S', 'E', 'T', 'B', ' ', '0', 'x', '6', 'f', ',', ' ', '-', '5', ' ', ';', 'x'] =
        some ⟨some ['l', 'p'], some (.setb 111 (-5))⟩ ∧
      parseLine ['T', 'I', 'C', 'K', '×', '3'] = some ⟨none, some (.tick 3)⟩ ∧
      parseLine ['S', 'E', 'T', 'F', ' ', '3', '0'] = none := by decide

/-- 95_test_vectors.md P1 step 3: `SETB 111, -5` is 0x206FFFFB; and out-of-range operands are refused (R121). -/
theorem test_assemble :
    (SourceOp.setb 111 (-5)).word? = some 0x206FFFFB#32 ∧ (SourceOp.setb 4096 0).word? = none ∧
      (SourceOp.setb 0 32768).word? = none ∧ (SourceOp.setf 0 (-1)).word? = none := by decide

/-- notes/assumptions/14.md: a label is a run of other characters, so `::` and `, : INIT` are no lines, and `a:` is one. -/
theorem test_parse_label :
    parseLine [':', ':'] = none ∧ parseLine [',', ' ', ':', ' ', 'I', 'N', 'I', 'T'] = none ∧
      parseLine ['a', ':'] = some ⟨some ['a'], none⟩ := by decide

/-- R123: SETALL sends T words, in channel order. -/
theorem test_setall :
    ((SourceOp.setall 1).actions? (small false)).map (fun as => (as.length, as.getLast?)) =
      some (16, some (.deliver (.command 0x200F0001#32))) := by decide +kernel

/-! ### The mapper, the packer, the stream and the clamps -/

/-- 95_test_vectors.md 2.2, the whole table. -/
theorem test_map_table :
    [0, 1, 11, 12, 13, 14, 15, 16, 52, 56, 90, 93, 105, 110, 111, 112, 4095].map (mapChannel (reference true)) =
      [111, 110, 99, 100, 97, 98, 96, 95, 55, 59, 18, 21, 6, 1, 0, 0, 0] := by decide +kernel

/-- 95_test_vectors.md 2.3: keeping the neighbour's nibble, and the last byte of the buffer. -/
theorem test_pack :
    pack [] 1 0xFFF#12 = [(1, 0x0F#8), (2, 0xFF#8)] ∧
      pack [(0, 0xFF#8), (1, 0xFF#8), (2, 0xFF#8)] 0 0#12 = [(1, 0x0F#8), (2, 0xFF#8)] ∧
      pack [(3, 0xFF#8), (4, 0xFF#8)] 2 0x123#12 = [(3, 0x12#8), (4, 0x3F#8)] ∧
      pack [] 111 0xFFF#12 = [(166, 0x0F#8), (167, 0xFF#8)] := by decide

/-- 95_test_vectors.md W1: AB C1 23. -/
theorem test_pack_pair :
    pack (pack [] 0 0xABC#12) 1 0x123#12 = [(0, 0xAB#8), (1, 0xC1#8), (2, 0x23#8)] ∧
      unpack [(0, 0xAB#8), (1, 0xC1#8), (2, 0x23#8)] 0 = 0xABC#12 ∧
      unpack [(0, 0xAB#8), (1, 0xC1#8), (2, 0x23#8)] 1 = 0x123#12 := by decide

/-- 20_memory.md R86: byte 0 first, bit 7 first. -/
theorem test_stream : gsStream 2 [(0, 0xA0#8), (1, 0x01#8)] =
    [true, false, true, false, false, false, false, false, false, false, false, false, false, false, false, true] := by
  decide

/-- 95_test_vectors.md 2.3: ClampValue. -/
theorem test_clamp :
    [-32768, -1, 0, 4095, 4096, 32767].map clampValue = [0#12, 0#12, 0#12, 4095#12, 4095#12, 4095#12] := by decide

/-- 95_test_vectors.md 2.7, F1 to F7: one step each, and F3's clamped third step. -/
theorem test_fade_level :
    fadeLevel 30#12 0#12 4080#12 4095#12 = 4095#12 ∧ fadeLevel 0#12 30#12 100#12 10#12 = 70#12 ∧
      fadeLevel 0#12 40#12 20#12 10#12 = 10#12 ∧ fadeLevel 4095#12 0#12 4000#12 4095#12 = 4095#12 ∧
      fadeLevel 0#12 4095#12 5#12 0#12 = 0#12 ∧ fadeLevel 0#12 0#12 50#12 60#12 = 50#12 ∧
      fadeLevel 30#12 30#12 70#12 70#12 = 70#12 := by decide

/-! ### One step of each operation -/

/-- 95_test_vectors.md 2.9 and R279 for N = 1: 294 events, ARMED = 1, BLANK_PIN = 1, VPRG_PIN = 0. -/
theorem test_init_ends :
    (after (exec .init (off false))).map (fun t => (t.out.length, t.armed, t.blankPin, t.vprgPin, t.faultCause)) =
      some (294, true, true, false, 0#4) := by decide +kernel

/-- By hand from R150 and R274: Map(2) = 0 and Map(1) = 1 here, so DCStream begins with DC_TABLE[2] = 11 and
DC_TABLE[1] = 7. -/
theorem test_init_stream :
    (after (exec .init (off false))).map (fun t => t.out.take 14) =
      some ([.blank true, .mode true] ++
        [false, false, true, false, true, true, false, false, false, true, true, true].map .bit) := by decide +kernel

/-- 95_test_vectors.md 2.4, direct: SETB 5, 1000. -/
theorem test_setb_direct :
    (after (step (sent 0x200503E8#32 (referenceReady false)))).map (fun t => t.wb) =
      some [(159, 0x3E#8), (160, 0x80#8)] := by decide +kernel

/-- 95_test_vectors.md 2.4, fade: SETB 4095, 4096, both clamps; the write buffer is unchanged. -/
theorem test_setb_fade :
    (after (step (sent 0x2FFF1000#32 (referenceReady true)))).map (fun t => (t.target[111]?, t.wb)) =
      some (some 4095#12, []) := by decide +kernel

/-- 95_test_vectors.md 2.8. -/
theorem test_setf :
    (after (step (sent 0x3001E01E#32 (ready true)))).map (fun t => (t.fadeOn, t.fadeOff)) = some (30#12, 30#12) := by
  decide +kernel

/-- 95_test_vectors.md 2.8: reserved bit 24. -/
theorem test_setf_reserved :
    (after (step (sent 0x31000000#32 (ready true)))).map (fun t => (t.faultCause, t.fadeOn, t.fadeOff)) =
      some (2#4, 30#12, 40#12) := by decide +kernel

/-- 95_test_vectors.md 2.5, first row. -/
theorem test_req_accepted :
    (after (step (sent 0x40000000#32 { ready false with wb := [(0, 0xAB#8)] }))).map
      (fun t => (t.resp, t.tb, t.pending)) = some ([true], [(0, 0xAB#8)], true) := by decide +kernel

/-- 95_test_vectors.md 2.5, second row. -/
theorem test_req_busy :
    (after (step (sent 0x40000000#32 queued))).map (fun t => (t.resp, t.tb, t.pending)) =
      some ([false], [(0, 0x80#8)], true) := by decide +kernel

/-- 95_test_vectors.md 2.6, last row, for N = 1: Blank(1), Latch, Blank(0), then the 192 bits of TB. -/
theorem test_tick_direct :
    (after (step (ticked 0x70000000#32 { queued with awaitLatch := true }))).map
      (fun t => (t.out, t.awaitLatch, t.pending)) =
      some ([.blank true, .latch, .blank false, .bit true] ++ List.replicate 191 (.bit false), true, false) := by
  decide +kernel

/-- By hand from R240: channel 0 moves to 30, channel 1 to 60 and channel 2 stays, and here Map(0) = 15 and Map(1) = 1;
the step's own request is accepted and shifted in the same TICK (R214), after Blank(1) and Blank(0). -/
theorem test_tick_fade :
    (after (step (ticked 0x70000000#32 fading))).map (fun t => t.actual.take 3) = some [30#12, 60#12, 70#12] ∧
      (after (step (ticked 0x70000000#32 fading))).map (fun t => t.tb) = some [(2, 0x3C#8), (23, 0x1E#8)] ∧
      (after (step (ticked 0x70000000#32 fading))).map (fun t => t.out.length) = some 194 := by
  decide +kernel

/-! ### The hypotheses of the obligations are met -/

theorem test_hyps_DecodeInvertsEncode :
    Instr.wellFormed .command (.setb 4095#12 0x8000#16) = true ∧ Instr.wellFormed .command (.setf 0#12 4095#12) = true ∧
      Instr.wellFormed .tick .tick = true := by decide

theorem test_hyps_EncodeInvertsDecode :
    decodeCommand 0x2FFFFFFF#32 = .ok (.setb 4095#12 0xFFFF#16) ∧ decodeTick 0x70000000#32 = some .tick := by decide

/-- Each corner of the two ranges, and each side past them. -/
theorem test_hyps_AssemblerKeepsOperands :
    (SourceOp.setb 0 (-32768)).word? = some 0x20008000#32 ∧ (SourceOp.setb 4095 32767).word? = some 0x2FFF7FFF#32 ∧
      (SourceOp.setb (-1) 0).word? = none ∧ (SourceOp.setb 0 (-32769)).word? = none ∧
      (SourceOp.setf 0 4095).word? = some 0x30000FFF#32 ∧ (SourceOp.setf 4095 0).word? = some 0x30FFF000#32 ∧
      (SourceOp.setf 4096 0).word? = none ∧ (SourceOp.setf 0 4096).word? = none := by decide

theorem test_hyps_StepRunsCommand :
    (sent 0x40000000#32 (ready true)).inputs = .command 0x40000000#32 :: [] ∧ decodeCommand 0x40000000#32 = .ok .req :=
  ⟨rfl, by decide⟩

theorem test_hyps_StepRunsTick :
    ((ticked 0x70000000#32 (ready true)).inputs = .tick 0x70000000#32 :: [] ∧
        (ticked 0x70000000#32 (ready true)).armed = true) ∧
      ((ticked 0x70000000#32 (off true)).inputs = .tick 0x70000000#32 :: [] ∧
        (ticked 0x70000000#32 (off true)).armed = false) ∧
      ((ticked 0x70000001#32 (off true)).inputs = .tick 0x70000001#32 :: [] ∧ 0x70000001#32 ≠ 0x70000000#32) ∧
      (off true).inputs = [] := by decide +kernel

theorem test_hyps_BlockNeverHalts :
    ∀ w rest, (ticked 0x70000000#32 (ready true)).inputs = .tick w :: rest → w = 0x70000000#32 := by
  intro w rest h
  injection h with h _
  injection h with h
  exact h.symm

/-- Both clauses at the ends of their opcode ranges. -/
theorem test_hyps_IllegalWordIgnored :
    (sent 0x0FFFFFFF#32 (ready true)).inputs = .command 0x0FFFFFFF#32 :: [] ∧
      (0x0FFFFFFF#32).toNat / 2 ^ 28 = 0 ∧ 5 ≤ (0x50000000#32).toNat / 2 ^ 28 ∧ 5 ≤ (0xFFFFFFFF#32).toNat / 2 ^ 28 :=
  ⟨rfl, by decide, by decide, by decide⟩

/-- Each opcode at the lowest word that is a violation, and SETF at the highest. -/
theorem test_hyps_ReservedBitsIgnored :
    (sent 0x40000001#32 (ready true)).inputs = .command 0x40000001#32 :: [] ∧
      ((0x10000001#32).toNat / 2 ^ 28 = 1 ∧ (0x10000001#32).toNat % 2 ^ 28 ≠ 0) ∧
      ((0x40000001#32).toNat / 2 ^ 28 = 4 ∧ (0x40000001#32).toNat % 2 ^ 28 ≠ 0) ∧
      ((0x31000000#32).toNat / 2 ^ 28 = 3 ∧ (0x31000000#32).toNat / 2 ^ 24 % 16 ≠ 0) ∧
      ((0x3FFFFFFF#32).toNat / 2 ^ 28 = 3 ∧ (0x3FFFFFFF#32).toNat / 2 ^ 24 % 16 ≠ 0) ∧
      (0x2FFFFFFF#32).toNat / 2 ^ 28 = 2 := ⟨rfl, by decide⟩

theorem test_hyps_NotInitializedIgnored : (off true).armed = false ∧ (off false).armed = false := ⟨rfl, rfl⟩

theorem test_hyps_ReinitIgnored : (ready true).armed = true := rfl

theorem test_hyps_OneCausePerWord :
    (sent 0x10000001#32 (ready true)).inputs = .command 0x10000001#32 :: [] ∧
      (sent 0x10000001#32 (ready true)).faultCause = 0#4 := ⟨rfl, rfl⟩

/-- Each of the four causes; a word of each is sent with another fault recorded already; and a delivery that is no word. -/
theorem test_hyps_FaultsArePrecise :
    ((0xFFFFFFFF#32).toNat / 2 ^ 28 ≥ 5 ∧ ((0x4FFFFFFF#32).toNat / 2 ^ 28 = 4 ∧ (0x4FFFFFFF#32).toNat % 2 ^ 28 ≠ 0) ∧
      ((0x2FFFFFFF#32).toNat / 2 ^ 28 = 2 ∧ (off true).armed = false) ∧
      ((0x10000000#32).toNat / 2 ^ 28 = 1 ∧ (ready true).armed = true)) ∧
      (after (step (sent 0x4FFFFFFF#32 { ready true with faultCause := 1#4 }))).map (fun t => (t.faultCause, t.resp)) =
        some (1#4, [false]) ∧
      (∃ t, step (ticked 0x70000000#32 (ready true)) = .next t) ∧
      ∀ w rest, (ticked 0x70000000#32 (ready true)).inputs ≠ .command w :: rest :=
  ⟨by decide, by decide, ⟨_, rfl⟩, fun _ _ h => nomatch h⟩

theorem test_hyps_FirstFaultKept :
    (∃ t, step (sent 0x00000000#32 { ready true with faultCause := 3#4 }) = .next t ∧ t.faultCause = 3#4) ∧
      (∃ t, step (off true) = .next t) ∧ ∀ w rest, (off true).inputs ≠ .command w :: rest :=
  ⟨⟨_, rfl, rfl⟩, ⟨_, rfl⟩, fun _ _ h => nomatch h⟩

/-- Both ends of [0, T), and the first input past it. -/
theorem test_hyps_MapIsBijection :
    (0 < (small true).channels ∧ 15 < (small true).channels ∧ 16 ≥ (small true).channels) ∧
      mapChannel (small true) 0 = 15 ∧ mapChannel (small true) 15 = 14 ∧ mapChannel (small true) 16 = 14 := by
  decide +kernel

theorem test_hyps_SwapIsInvolution :
    (reference true).swaps.Pairwise (fun p q => p.1 ≠ q.1 ∧ p.1 ≠ q.2 ∧ p.2 ≠ q.1 ∧ p.2 ≠ q.2) := by decide +kernel

/-- The accepted clause by the one-device parameters, the refused one by N = 0. -/
theorem test_hyps_IllFormedConfigRefused :
    (1 ≤ (smallRaw true).deviceCount ∧ (smallRaw true).deviceCount ≤ 256 ∧
      (∀ p ∈ (smallRaw true).swaps, p.1 < 16 * (smallRaw true).deviceCount ∧ p.2 < 16 * (smallRaw true).deviceCount ∧
        p.1 ≠ 0 ∧ p.2 ≠ 0) ∧
      (smallRaw true).localPerm.length = 16 ∧ (∀ v : Fin 16, ∃ j < 16, (smallRaw true).localPerm[j]? = some v) ∧
      (smallRaw true).localPerm[0]? = some 0 ∧ (smallRaw true).dcTable.length = 16 * (smallRaw true).deviceCount) ∧
    ¬ 1 ≤ ({ smallRaw true with deviceCount := 0 } : RawConfig).deviceCount := by decide +kernel

/-- Both parities, the first channel and the last. -/
theorem test_hyps_PackWritesTwoBytes :
    Memory.wf (small true).bufferBytes [(0, 0xFF#8), (23, 0xFF#8)] = true ∧
      (0 < (small true).channels ∧ 0 % 2 = 0) ∧ (15 < (small true).channels ∧ 15 % 2 = 1) := by decide +kernel

theorem test_hyps_PackRoundTrip :
    Memory.wf (small true).bufferBytes [(0, 0xFF#8), (23, 0xFF#8)] = true ∧ 15 < (small true).channels ∧
      14 < (small true).channels ∧ 14 ≠ 15 := by decide +kernel

theorem test_hyps_StreamOrder : 23 < (small true).bufferBytes ∧ 15 < (small true).channels := by decide +kernel

theorem test_hyps_SetbEffect :
    (off true).armed = false ∧ ((ready true).armed = true ∧ (ready true).cfg.fadeEnabled = true) ∧
      ((ready false).armed = true ∧ (ready false).cfg.fadeEnabled = false) := ⟨rfl, ⟨rfl, rfl⟩, rfl, rfl⟩

/-- The clamped channel and both clamped values, in both variants. -/
theorem test_hyps_SetbWritesOneChannel :
    ((ready true).wf = true ∧ (ready false).wf = true) ∧ (15 = min (4095#12).toNat ((ready true).cfg.channels - 1)) ∧
      ((0#12).toNat : Int) = min (max (0xFFFF#16).toInt 0) 4095 ∧
      ((4095#12).toNat : Int) = min (max (0x7FFF#16).toInt 0) 4095 := by decide +kernel

theorem test_hyps_SetfEffect : (off false).armed = false ∧ (ready false).armed = true := ⟨rfl, rfl⟩

theorem test_hyps_ReqBusy : queued.armed = true ∧ queued.pending = true := ⟨rfl, rfl⟩

theorem test_hyps_ReqAccepted : (ready true).armed = true ∧ (ready true).pending = false := ⟨rfl, rfl⟩

theorem test_hyps_CopyLoopIsWholeCopy :
    Memory.wf 24 [(0, 1#8), (23, 0xFF#8)] = true ∧ Memory.wf 24 [(1, 2#8), (23, 1#8)] = true := by decide

theorem test_hyps_OneAnswerPerReqWord :
    (∃ t, step (sent 0x40000000#32 queued) = .next t) ∧ (0x40000000#32).toNat / 2 ^ 28 = 4 ∧
      (∃ t, step (sent 0x30000000#32 queued) = .next t) ∧ (0x30000000#32).toNat / 2 ^ 28 ≠ 4 :=
  ⟨⟨_, rfl⟩, by decide, ⟨_, rfl⟩, by decide⟩

theorem test_hyps_NoTearing : (∃ t, step (sent 0x40000000#32 queued) = .next t) ∧ queued.pending = true :=
  ⟨⟨_, rfl⟩, rfl⟩

/-- Each of the three clauses: a request that is accepted, a TICK that clears, and a TICK with nothing pending. -/
theorem test_hyps_PendingProtocol :
    (∃ t, step (sent 0x40000000#32 (ready false)) = .next t ∧ (ready false).pending = false ∧ t.pending = true) ∧
      (∃ t, step (ticked 0x70000000#32 queued) = .next t ∧ queued.pending = true ∧ t.pending = false) ∧
      (ready true).armed = true :=
  ⟨⟨_, rfl, by decide, by decide⟩, ⟨_, rfl, by decide, by decide⟩, rfl⟩

/-- Both premises, and 30_encoding.md R122's loop by hand: REQ 0, REQ 0, a TICK, REQ 1, then the line after POLL. -/
theorem test_hyps_PollEndsAtNextTick :
    (queued.armed = true ∧ queued.pending = true) ∧ ((ready false).armed = true ∧ (ready false).pending = false) ∧
      (match Session.run [.host, .host, .timingSource, .host] ⟨queued, [.pollLoop, .deliver (.command 0#32)]⟩ with
        | .next t => some (t.program, t.block.resp)
        | .fault _ => none
        | .refused _ => none) = some ([.deliver (.command 0#32)], [false, false, true]) := by decide +kernel

theorem test_hyps_TickDirectEffect : queued.armed = true ∧ queued.cfg.fadeEnabled = false := ⟨rfl, rfl⟩

theorem test_hyps_TickEvents : fading.armed = true ∧ queued.armed = true := ⟨rfl, rfl⟩

theorem test_hyps_TickFrame : queued.armed = true ∧ queued.cfg.fadeEnabled = false := ⟨rfl, rfl⟩

/-- One channel in each of the three cases. -/
theorem test_hyps_TickFadesEveryChannel :
    (fading.wf = true ∧ fading.armed = true ∧ fading.cfg.fadeEnabled = true) ∧
      (levelAt fading.actual 0).toNat < (levelAt fading.target 0).toNat ∧
      (levelAt fading.target 1).toNat < (levelAt fading.actual 1).toNat ∧
      (levelAt fading.actual 2).toNat = (levelAt fading.target 2).toNat := by decide +kernel

theorem test_hyps_FadeOrderUnobservable :
    fading.wf = true ∧ (List.range fading.cfg.channels).reverse.Perm (List.range fading.cfg.channels) :=
  ⟨by decide +kernel, List.reverse_perm _⟩

/-- A channel that fades up, one that fades down, and one at its target, where both clauses apply. -/
theorem test_hyps_FadeConverges :
    ({ fading with inputs := List.replicate 4 (.tick 0x70000000#32) } : State).wf = true ∧
      fading.armed = true ∧ fading.cfg.fadeEnabled = true ∧
      (levelAt fading.actual 0).toNat ≤ (levelAt fading.target 0).toNat ∧
      (levelAt fading.target 1).toNat ≤ (levelAt fading.actual 1).toNat ∧
      (levelAt fading.actual 2).toNat = (levelAt fading.target 2).toNat := by decide +kernel

/-- The second clause's premise too: at rates 4095 every channel reaches its target in that step. -/
theorem test_hyps_DroppedFadeFrame :
    let s := { fading with pending := true, fadeOn := 4095#12, fadeOff := 4095#12 }
    (s.wf = true ∧ s.armed = true ∧ s.cfg.fadeEnabled = true ∧ s.pending = true) ∧
      ∃ t, exec .tick s = .next t ∧ ∀ l < s.cfg.channels, levelAt t.actual l = levelAt t.target l :=
  ⟨by decide +kernel, _, rfl, by decide +kernel⟩

theorem test_hyps_InitEffect : (off true).armed = false := rfl

theorem test_hyps_InitEventTotal : (off false).armed = false := rfl

theorem test_hyps_DotCorrectionStream :
    15 < (small true).channels ∧ (reference true).dcTable = List.replicate (reference true).channels 63#6 := by
  decide +kernel

/-- Reset of a block that runs and has recorded a fault. -/
theorem test_hyps_ResetValues :
    State.resetWith (small true) = State.resetWith (small true) ∧
      ({ fading with faultCause := 2#4 } : State).cfg = small true ∧
      ({ fading with faultCause := 2#4 } : State).powerUp.faultCause = 0#4 := ⟨rfl, rfl, rfl⟩

theorem test_hyps_ResetMeetsInvariants :
    ∃ s, s = { State.resetWith (small true) with inputs := [.command 0x10000000#32] } := ⟨_, rfl⟩

theorem test_hyps_StepKeepsForm : fading.wf = true ∧ ∃ t, step (ticked 0x70000000#32 fading) = .next t :=
  ⟨by decide +kernel, _, rfl⟩

/-- Not all zeros: channel 0 is at 30 in ACTUAL and in the write buffer. -/
theorem test_hyps_StepKeepsMirror :
    let s := { ready true with wb := [(23, 0x1E#8)], actual := (ready true).actual.set 0 30#12 }
    (s.wf = true ∧ s.cfg.fadeEnabled = true ∧
        ∀ l < s.cfg.channels, unpack s.wb (mapChannel s.cfg l) = levelAt s.actual l) ∧
      ∃ t, step (ticked 0x70000000#32 s) = .next t := ⟨by decide +kernel, _, rfl⟩

theorem test_hyps_StepKeepsFadeUnused :
    (queued.cfg.fadeEnabled = false ∧ queued.target = List.replicate queued.cfg.channels 0#12 ∧
        queued.actual = List.replicate queued.cfg.channels 0#12) ∧
      ∃ t, step (ticked 0x70000000#32 queued) = .next t := ⟨by decide +kernel, _, rfl⟩

theorem test_hyps_StepKeepsQuietBeforeInit :
    (sent 0x40000000#32 (off true)).quietBeforeInit ∧ (off true).armed = false ∧
      ∃ t, step (sent 0x40000000#32 (off true)) = .next t := ⟨fun _ => rfl, rfl, _, rfl⟩

theorem test_hyps_StepKeepsPins :
    ({ ready true with out := [.blank true, .mode true, .mode false, .blank false] } : State).pinsFollowOut ∧
      ∃ t, step (ticked 0x70000000#32 (ready true)) = .next t := ⟨by decide, _, rfl⟩

/-- The one-device block after an accepted INIT. -/
def initialised : State := arm (seedGrayscale (writeDotCorrection (off false)))

/-- After an accepted INIT, where the invariant's own premise holds. -/
theorem test_hyps_StepKeepsWholeFrames :
    exec .init (off false) = .next initialised ∧ initialised.armed = true ∧ initialised.quietBeforeInit ∧
      initialised.latchesWholeFrames ∧ ∃ t, step (ticked 0x70000000#32 initialised) = .next t :=
  ⟨rfl, rfl, fun h => Bool.noConfusion h, by decide +kernel, _, rfl⟩

theorem test_hyps_ReachableStatesSafe :
    ∃ s, Reachable (small true) s ∧ s.faultCause = 3#4 :=
  ⟨_, .step (.reset [.command 0x40000000#32]) rfl, by decide +kernel⟩

theorem test_hyps_TracesOnlyGrow :
    (∃ t, step (ticked 0x70000000#32 queued) = .next t) ∧ queued.armed = true := ⟨⟨_, rfl⟩, rfl⟩

theorem test_hyps_OnlyItsWritersChangeIt :
    ∃ t, step (sent 0x2FFF0FFF#32 (ready false)) = .next t ∧ t.wb ≠ [] := ⟨_, rfl, by decide +kernel⟩

/-- By hand from R315: channel 1 is swapped to 2, whose output is LOCAL_PERM[2] = 14; and an input past the end, which is
clamped to 15, whose output is LOCAL_PERM[15] = 1. -/
theorem test_hyps_ChannelLandsOnItsOutput :
    (2 = swapStage (small true) (min 1 ((small true).channels - 1)) ∧ localPin (small true) (2 % 16) = 14 ∧
        mapChannel (small true) 1 = chainGroup 1 0 14) ∧
      (15 = swapStage (small true) (min 4095 ((small true).channels - 1)) ∧ localPin (small true) (15 % 16) = 1 ∧
        mapChannel (small true) 4095 = chainGroup 1 0 1) := by decide +kernel

theorem test_hyps_ChainAfterInit :
    (off true).armed = false ∧ onesChain.devices = (off true).cfg.deviceCount ∧ onesChain.wf = true := by
  decide +kernel

/-- Two TICKs, the first shifting a frame: the state between them is the first one's result. -/
theorem test_hyps_LatchedFrameIsShown :
    onesChain.devices = queued.cfg.deviceCount ∧ onesChain.wf = true ∧ modeLevel queued.out = false ∧
      ∃ t v, exec .tick queued = .next t ∧ t.awaitLatch = true ∧ exec .tick t = .next v :=
  ⟨by decide +kernel, by decide +kernel, rfl, _, _, rfl, by decide +kernel, rfl⟩

end Sys2Proof.Tests
end

section
/-! What reset leaves in every state element (10_state.md R60), whatever was delivered or is still to come. -/

namespace Sys2Proof.Machine

/-- Fade registers that are all 0 read 0 at every index, past their end too. -/
@[simp] theorem levelAt_replicate_zero (n l : Nat) : levelAt (List.replicate n 0#12) l = 0#12 := by
  simp only [levelAt, List.getD_eq_getElem?_getD, List.getElem?_replicate]
  split_ifs <;> rfl

/-- A reset block, built with `c` or reset in mid-run, differs from `State.resetWith c` in its deliveries at most. -/
theorem eq_resetWith_of_reset {c : Config} {s : State}
    (h : s = State.resetWith c ∨ ∃ u : State, u.cfg = c ∧ s = u.powerUp) :
    ∃ ins, s = { State.resetWith c with inputs := ins } := by
  rcases h with rfl | ⟨u, rfl, rfl⟩
  · exact ⟨[], rfl⟩
  · exact ⟨u.inputs, rfl⟩

/-- Settles O47: no row of R60 is about the deliveries, so the two kinds of reset are one case. -/
theorem resetValues : Obligations.ResetValues := by
  intro c s h
  obtain ⟨ins, rfl⟩ := eq_resetWith_of_reset h
  exact ⟨fun k => ⟨Memory.read_nil k, Memory.read_nil k⟩, rfl, rfl,
    List.length_replicate, List.length_replicate,
    fun l => ⟨levelAt_replicate_zero _ l, levelAt_replicate_zero _ l⟩,
    rfl, rfl, rfl, rfl, rfl, rfl, rfl, rfl⟩

end Sys2Proof.Machine
end

section
/-! The packed layout of a buffer (20_memory.md R73) and its serial stream (R86): which byte and which bit of it holds
each bit of the stream, and of each channel. -/

namespace Sys2Proof.Machine

/-! ### Two channels in three bytes -/

/-- The even channel of a pair is byte 3q and the high nibble of byte 3q + 1 (20_memory.md R73). -/
theorem unpack_even (x : Memory) (q : Nat) :
    unpack x (2 * q) = x.read (3 * q) ++ (x.read (3 * q + 1)).extractLsb' 4 4 := by
  have hbase : packBase (2 * q) = 3 * q := by unfold packBase; omega
  rw [unpack, if_pos (by omega), hbase]

/-- The odd channel of a pair is the low nibble of byte 3q + 1 and byte 3q + 2. -/
theorem unpack_odd (x : Memory) (q : Nat) :
    unpack x (2 * q + 1) = (x.read (3 * q + 1)).extractLsb' 0 4 ++ x.read (3 * q + 2) := by
  have hbase : packBase (2 * q + 1) = 3 * q + 1 := by unfold packBase; omega
  rw [unpack, if_neg (by omega), hbase]

/-- Concatenation as arithmetic: the left part counts in units of the right part's range. -/
theorem toNat_append_eq_mul_add {m n : Nat} (a : BitVec m) (b : BitVec n) :
    (a ++ b).toNat = a.toNat * 2 ^ n + b.toNat := by
  rw [BitVec.toNat_append, ← Nat.shiftLeft_add_eq_or_of_lt b.isLt, Nat.shiftLeft_eq]

/-- Settles O24: byte 3q + 1 is split into its two nibbles, the even channel's last and the odd channel's first. -/
theorem pairIsBigEndian : Obligations.PairIsBigEndian := by
  intro x q
  rw [unpack_even, unpack_odd, toNat_append_eq_mul_add, toNat_append_eq_mul_add, BitVec.extractLsb'_toNat,
    BitVec.extractLsb'_toNat, Nat.shiftRight_eq_div_pow, Nat.shiftRight_zero]
  omega

/-! ### The bits of the stream -/

/-- In a concatenation of blocks of one width `w`, entry `w * k + j` is entry `j` of block `k`. -/
theorem getElem?_flatMap_range {α : Type} {w : Nat} {f : Nat → List α} (hw : ∀ k, (f k).length = w)
    {n k j : Nat} (hk : k < n) (hj : j < w) : ((List.range n).flatMap f)[w * k + j]? = (f k)[j]? := by
  induction n with
  | zero => omega
  | succ n ih =>
    have hlen : ((List.range n).flatMap f).length = w * n := by
      simp [List.length_flatMap, hw, Nat.mul_comm]
    rw [List.range_succ, List.flatMap_append, List.flatMap_singleton]
    rcases Nat.lt_succ_iff_lt_or_eq.1 hk with hlt | rfl
    · have hin : w * k + j < w * n := calc
        w * k + j < w * (k + 1) := by rw [Nat.mul_succ]; omega
        _ ≤ w * n := Nat.mul_le_mul_left w hlt
      rw [List.getElem?_append_left (hlen ▸ hin), ih hlt]
    · rw [List.getElem?_append_right (by omega), hlen, Nat.add_sub_cancel_left]

theorem getElem?_msbFirst {n : Nat} (v : BitVec n) {j : Nat} (hj : j < n) :
    (msbFirst v)[j]? = some (v.getLsbD (n - 1 - j)) := by
  simp [msbFirst, hj, BitVec.getMsbD]

/-- Stream bits 8k … 8k + 7 are bits 7 … 0 of byte k (20_memory.md R86). -/
theorem getElem?_gsStream {bytes k j : Nat} (x : Memory) (hk : k < bytes) (hj : j < 8) :
    (gsStream bytes x)[8 * k + j]? = some ((x.read k).getLsbD (7 - j)) := by
  rw [gsStream, getElem?_flatMap_range (fun _ => msbFirst_length _) hk hj, getElem?_msbFirst _ hj]

/-- The bits of a channel, most significant first, lie one after another in the buffer's bit string from bit 12i on
(41_packer.md R165). A channel has its bits in two bytes, so each parity has two cases. -/
theorem getLsbD_unpack (x : Memory) (i : Nat) {j : Nat} (hj : j < 12) :
    (unpack x i).getLsbD (11 - j) = (x.read ((12 * i + j) / 8)).getLsbD (7 - (12 * i + j) % 8) := by
  rcases Nat.even_or_odd' i with ⟨q, rfl | rfl⟩
  · rw [unpack_even, BitVec.getLsbD_append, BitVec.getLsbD_extractLsb']
    split_ifs with hlow
    · have hbyte : (12 * (2 * q) + j) / 8 = 3 * q + 1 := by omega
      have hbit : 7 - (12 * (2 * q) + j) % 8 = 4 + (11 - j) := by omega
      rw [hbyte, hbit, decide_eq_true hlow, Bool.true_and]
    · have hbyte : (12 * (2 * q) + j) / 8 = 3 * q := by omega
      have hbit : 7 - (12 * (2 * q) + j) % 8 = 11 - j - 4 := by omega
      rw [hbyte, hbit]
  · rw [unpack_odd, BitVec.getLsbD_append, BitVec.getLsbD_extractLsb']
    split_ifs with hlow
    · have hbyte : (12 * (2 * q + 1) + j) / 8 = 3 * q + 2 := by omega
      have hbit : 7 - (12 * (2 * q + 1) + j) % 8 = 11 - j := by omega
      rw [hbyte, hbit]
    · have hbyte : (12 * (2 * q + 1) + j) / 8 = 3 * q + 1 := by omega
      have hbit : 7 - (12 * (2 * q + 1) + j) % 8 = 0 + (11 - j - 8) := by omega
      have hnibble : 11 - j - 8 < 4 := by omega
      rw [hbyte, hbit, decide_eq_true hnibble, Bool.true_and]

/-- Settles O25: the channels' bits follow from the bytes' bits, since both run through the buffer's bit string. -/
theorem streamOrder : Obligations.StreamOrder := by
  intro c x
  refine ⟨?_, fun k hk j hj => getElem?_gsStream x hk hj, fun i hi j hj => ?_⟩
  · rw [gsStream_length, eight_mul_bufferBytes, Config.frameBits]
  · rw [getLsbD_unpack x i hj, ← getElem?_gsStream (bytes := c.bufferBytes) x, Nat.div_add_mod]
    · rw [Config.channels_eq] at hi
      rw [Config.bufferBytes]
      omega
    · omega

end Sys2Proof.Machine
end

section
/-! Command-port words read as numbers (30_encoding.md R101, R111): what each word decodes to, what a step does with a
bad word (R115, R116), and the one answer of each word with opcode 0x4 (R104). -/

namespace Sys2Proof

/-! ### The fields as arithmetic on the word -/

theorem opcodeField_eq_iff (w : Word) (op : BitVec 4) : opcodeField w = op ↔ w.toNat / 2 ^ 28 = op.toNat := by
  rw [← BitVec.toNat_inj, opcodeField, BitVec.extractLsb'_toNat, Nat.shiftRight_eq_div_pow]
  omega

theorem reservedN_eq_zero_iff (w : Word) : reservedN w = 0#28 ↔ w.toNat % 2 ^ 28 = 0 := by
  rw [← BitVec.toNat_inj, reservedN, BitVec.extractLsb'_toNat, Nat.shiftRight_zero]
  rfl

theorem reservedF_eq_zero_iff (w : Word) : reservedF w = 0#4 ↔ w.toNat / 2 ^ 24 % 16 = 0 := by
  rw [← BitVec.toNat_inj, reservedF, BitVec.extractLsb'_toNat, Nat.shiftRight_eq_div_pow]
  rfl

/-! ### The decoder -/

/-- A reserved bit is set: one of bits [27:0] of an INIT or REQ word, or one of bits [27:24] of a SETF word
(30_encoding.md R116). -/
abbrev Word.violatesReserved (w : Word) : Prop :=
  (w.toNat / 2 ^ 28 = 1 ∨ w.toNat / 2 ^ 28 = 4) ∧ w.toNat % 2 ^ 28 ≠ 0 ∨
    w.toNat / 2 ^ 28 = 3 ∧ w.toNat / 2 ^ 24 % 16 ≠ 0

/-- What a word decodes to, opcode by opcode (30_encoding.md R111). -/
theorem decodeCommand_cases (w : Word) :
    (w.toNat / 2 ^ 28 = 1 ∧ w.toNat % 2 ^ 28 = 0 ∧ decodeCommand w = .ok .init) ∨
    (w.toNat / 2 ^ 28 = 2 ∧ decodeCommand w = .ok (.setb (chField w) (valField w))) ∨
    (w.toNat / 2 ^ 28 = 3 ∧ w.toNat / 2 ^ 24 % 16 = 0 ∧ decodeCommand w = .ok (.setf (onField w) (offField w))) ∨
    (w.toNat / 2 ^ 28 = 4 ∧ w.toNat % 2 ^ 28 = 0 ∧ decodeCommand w = .ok .req) ∨
    (Word.violatesReserved w ∧ decodeCommand w = .bad .reservedBits) ∨
    ((w.toNat / 2 ^ 28 = 0 ∨ 5 ≤ w.toNat / 2 ^ 28) ∧ decodeCommand w = .bad .illegalCommand) := by
  simp only [decodeCommand, opcodeField_eq_iff, ne_eq, reservedN_eq_zero_iff, reservedF_eq_zero_iff, BitVec.reduceToNat]
  split_ifs with hInit hBits hSetb hSetf hBits hReq hBits
  · exact .inl ⟨hInit, hBits, rfl⟩
  · exact .inr (.inr (.inr (.inr (.inl ⟨.inl ⟨.inl hInit, hBits⟩, rfl⟩))))
  · exact .inr (.inl ⟨hSetb, rfl⟩)
  · exact .inr (.inr (.inl ⟨hSetf, hBits, rfl⟩))
  · exact .inr (.inr (.inr (.inr (.inl ⟨.inr ⟨hSetf, hBits⟩, rfl⟩))))
  · exact .inr (.inr (.inr (.inl ⟨hReq, hBits, rfl⟩)))
  · exact .inr (.inr (.inr (.inr (.inl ⟨.inl ⟨.inr hReq, hBits⟩, rfl⟩))))
  · exact .inr (.inr (.inr (.inr (.inr ⟨by omega, rfl⟩))))

/-- A word is bad in two ways only, and each way has its own fault (30_encoding.md R115, R116). -/
theorem decodeCommand_eq_bad_iff (w : Word) (c : FaultCode) :
    decodeCommand w = .bad c ↔
      (c = .illegalCommand ∧ (w.toNat / 2 ^ 28 = 0 ∨ 5 ≤ w.toNat / 2 ^ 28)) ∨
        (c = .reservedBits ∧ Word.violatesReserved w) := by
  rcases decodeCommand_cases w with ⟨hop, hbits, hd⟩ | ⟨hop, hd⟩ | ⟨hop, hbits, hd⟩ | ⟨hop, hbits, hd⟩ | ⟨hres, hd⟩ |
    ⟨hop, hd⟩
  · exact iff_of_false (by simp [hd]) (by omega)
  · exact iff_of_false (by simp [hd]) (by omega)
  · exact iff_of_false (by simp [hd]) (by omega)
  · exact iff_of_false (by simp [hd]) (by omega)
  · rw [hd, Decoded.bad.injEq]
    refine ⟨fun hc => .inr ⟨hc.symm, hres⟩, ?_⟩
    rintro (⟨-, hop⟩ | ⟨rfl, -⟩)
    · omega
    · rfl
  · rw [hd, Decoded.bad.injEq]
    refine ⟨fun hc => .inl ⟨hc.symm, hop⟩, ?_⟩
    rintro (⟨rfl, -⟩ | ⟨-, hres⟩)
    · rfl
    · omega

/-- An opcode-4 word with no reserved bit set is REQ's word (30_encoding.md R108). -/
theorem eq_reqWord_of_fields {w : Word} (hop : w.toNat / 2 ^ 28 = 4) (hbits : w.toNat % 2 ^ 28 = 0) :
    w = 0x40000000#32 := by
  apply BitVec.eq_of_toNat_eq
  change w.toNat = 4 * 2 ^ 28
  omega

/-- One word is a request (30_encoding.md R108). -/
theorem decodeCommand_eq_req_iff (w : Word) : decodeCommand w = .ok .req ↔ w = 0x40000000#32 := by
  refine ⟨fun h => ?_, fun h => h ▸ rfl⟩
  rcases decodeCommand_cases w with ⟨-, -, hd⟩ | ⟨-, hd⟩ | ⟨-, -, hd⟩ | ⟨hop, hbits, -⟩ | ⟨-, hd⟩ | ⟨-, hd⟩
  · simp [hd] at h
  · simp [hd] at h
  · simp [hd] at h
  · exact eq_reqWord_of_fields hop hbits
  · simp [hd] at h
  · simp [hd] at h

end Sys2Proof

namespace Sys2Proof.Machine

theorem wordAnswers_eq (w : Word) : wordAnswers w = decide (w.toNat / 2 ^ 28 = 4) :=
  decide_eq_decide.2 (opcodeField_eq_iff w 0x4#4)

/-! ### A command word's step -/

/-- A bad word's step is the recording of its fault (60_exceptions.md R304). -/
theorem step_of_decodeCommand_bad {s : State} {w : Word} {rest : List PortEvent} {c : FaultCode}
    (hi : s.inputs = .command w :: rest) (hd : decodeCommand w = .bad c) :
    step s = .next ((s.take rest).raiseFault c (decide (w.toNat / 2 ^ 28 = 4))) := by
  simp only [step, hi, commandTurn, hd, wordAnswers_eq]

/-- An operation's step is its effect, with its word taken from the port (30_encoding.md R111). -/
theorem step_of_decodeCommand_ok {s : State} {w : Word} {rest : List PortEvent} {i : Instr}
    (hi : s.inputs = .command w :: rest) (hd : decodeCommand w = .ok i) : step s = exec i (s.take rest) := by
  simp only [step, hi, commandTurn, hd]

/-- Settles O9: the opcode is unassigned, so it is not 0x4 and nothing is answered. -/
theorem illegalWordIgnored : Obligations.IllegalWordIgnored := by
  intro s w rest hi hop
  have hsilent : decide (w.toNat / 2 ^ 28 = 4) = false := decide_eq_false (by omega)
  rw [step_of_decodeCommand_bad hi ((decodeCommand_eq_bad_iff w _).2 (.inl ⟨rfl, hop⟩)), hsilent]
  rfl

/-- Settles O10: a bad word is one of the two kinds, and SETB has no reserved bits and an assigned opcode. -/
theorem reservedBitsIgnored : Obligations.ReservedBitsIgnored := by
  refine ⟨fun s w rest hi hres => ?_, fun w hop c hd => ?_⟩
  · rw [step_of_decodeCommand_bad hi ((decodeCommand_eq_bad_iff w _).2 (.inr ⟨rfl, hres⟩))]
    by_cases hreq : w.toNat / 2 ^ 28 = 4
    · rw [if_pos hreq, decide_eq_true hreq]
      rfl
    · rw [if_neg hreq, decide_eq_false hreq]
      rfl
  · have := (decodeCommand_eq_bad_iff w c).1 hd
    omega

/-! ### Answers -/

theorem outputHandler_resp (s : State) : (outputHandler s).resp = s.resp := by
  rw [outputHandler, shiftStep_eq, fadeIfEnabled_eq, blankLatchUnblank_eq]

/-- A request is answered 1 when it is accepted, and 0 while a frame is pending (42_coordinator.md R193). -/
theorem respond_coordinatorUpdate_resp (s : State) :
    ((coordinatorUpdate s).1.respond (coordinatorUpdate s).2).resp = s.resp ++ [!s.pending] := by
  obtain ⟨hp, h⟩ | ⟨hp, h⟩ := coordinatorUpdate_cases s <;> simp [h, hp]

/-- REQ answers one bit, and every other operation none (42_coordinator.md R193). -/
theorem exec_resp {i : Instr} {s t : State} (h : exec i s = .next t) :
    t.resp = if i = .req then s.resp ++ [s.armed && !s.pending] else s.resp := by
  rcases exec_cases h with ⟨rfl, -, rfl⟩ | ⟨rfl, -, rfl⟩ | ⟨⟨_, _, rfl⟩, -, rfl⟩ | ⟨_, _, rfl, -, -, rfl⟩ |
    ⟨_, _, rfl, -, -, rfl⟩ | ⟨⟨_, _, rfl⟩, -, rfl⟩ | ⟨_, _, rfl, -, rfl⟩ | ⟨rfl, ha, rfl⟩ | ⟨rfl, ha, rfl⟩ |
    ⟨rfl, -, rfl⟩
  · simp
  · simp [seedGrayscale, writeDotCorrection]
  · simp
  · simp
  · simp
  · simp
  · simp
  · simp [ha]
  · simpa [ha] using respond_coordinatorUpdate_resp s
  · simpa using outputHandler_resp s

/-- Settles O33: an opcode-4 word is REQ's word, or has a reserved bit set and answers 0; nothing else has an answer. -/
theorem oneAnswerPerReqWord : Obligations.OneAnswerPerReqWord := by
  refine fun s t hstep => ⟨fun w rest hi hop => ?_, fun hne => ?_⟩
  · by_cases hw : w = 0x40000000#32
    · rw [step_of_decodeCommand_ok hi ((decodeCommand_eq_req_iff w).2 hw)] at hstep
      simpa [hw] using exec_resp hstep
    · have hres : Word.violatesReserved w := .inl ⟨.inr hop, fun hbits => hw (eq_reqWord_of_fields hop hbits)⟩
      have hd : decodeCommand w = .bad .reservedBits := (decodeCommand_eq_bad_iff w _).2 (.inr ⟨rfl, hres⟩)
      rw [step_of_decodeCommand_bad hi hd, decide_eq_true hop] at hstep
      injection hstep with ht
      simp [← ht, hw]
  · rcases step_cases hstep with ⟨-, rfl⟩ | ⟨w, rest, c, hi, -, rfl⟩ | ⟨w, rest, i, hi, hd, hexec⟩ | ⟨rest, -, -, rfl⟩ |
      ⟨rest, -, -, hexec⟩
    · rfl
    · rw [State.raiseFault_resp, wordAnswers_eq, decide_eq_false (hne w rest hi)]
      rfl
    · have hreq : i ≠ .req := by
        rintro rfl
        exact hne w rest hi (by rw [(decodeCommand_eq_req_iff w).1 hd]; rfl)
      simpa [hreq] using exec_resp hexec
    · rfl
    · simpa using exec_resp hexec

end Sys2Proof.Machine
end

section
/-! The channel mapper (40_mapper.md): each stage is injective, so Map permutes the positions below T (R148); its closed
form (R150); and the stages fix 0 (R147). -/

namespace Sys2Proof.Machine

/-! ### Each stage is injective -/

theorem swapPair_injective (p : Nat × Nat) : Function.Injective (swapPair · p) :=
  Function.Involutive.injective fun x => swapPair_swapPair x p

theorem foldl_swapPair_injective (ps : List (Nat × Nat)) : Function.Injective (ps.foldl swapPair ·) := by
  induction ps with
  | nil => exact Function.injective_id
  | cons p ps ih => exact ih.comp (swapPair_injective p)

theorem swapStage_injective (c : Config) : Function.Injective (swapStage c) := foldl_swapPair_injective c.swaps

/-- LOCAL_PERM repeats no entry (40_mapper.md R144). -/
theorem localPin_inj {c : Config} {i j : Nat} (hi : i < 16) (hj : j < 16) (h : localPin c i = localPin c j) :
    i = j := by
  obtain ⟨-, -, -, hlen, hnodup, -⟩ := c.wf_iff
  rw [← hlen] at hi hj
  rw [localPin, localPin, List.getD_eq_getElem _ _ hi, List.getD_eq_getElem _ _ hj] at h
  exact hnodup.getElem_inj_iff.1 (Fin.ext h)

/-- The position within the device block that the remap gives a channel (40_mapper.md R145). -/
theorem remapStage_mod (c : Config) (x : Nat) : remapStage c x % 16 = localPin c (x % 16) := by
  have := localPin_lt c (x % 16)
  unfold remapStage
  omega

/-- The remap keeps the device block, and permutes the positions within it. -/
theorem remapStage_injective (c : Config) : Function.Injective (remapStage c) := by
  intro x y h
  have hdiv : x / 16 = y / 16 := by rw [← remapStage_div c x, h, remapStage_div]
  have hpin : localPin c (x % 16) = localPin c (y % 16) := by rw [← remapStage_mod, h, remapStage_mod]
  have hmod : x % 16 = y % 16 := localPin_inj (by omega) (by omega) hpin
  omega

theorem reverseStage_inj {c : Config} {p q : Nat} (hp : p < c.channels) (hq : q < c.channels)
    (h : reverseStage c p = reverseStage c q) : p = q := by
  unfold reverseStage at h
  omega

/-! ### Map -/

/-- Below T nothing is clamped, so the injective stages compose. -/
theorem mapChannel_injOn (c : Config) : Set.InjOn (mapChannel c) (Finset.range c.channels) := by
  intro x hx y hy h
  rw [Finset.mem_coe, Finset.mem_range] at hx hy
  rw [mapChannel, mapChannel, clampChannel_of_lt hx, clampChannel_of_lt hy] at h
  exact swapStage_injective c (remapStage_injective c
    (reverseStage_inj (remapStage_lt (swapStage_lt hx)) (remapStage_lt (swapStage_lt hy)) h))

/-- An injective map of the T positions into themselves reaches every one of them. -/
theorem mapChannel_surjOn (c : Config) :
    Set.SurjOn (mapChannel c) (Finset.range c.channels) (Finset.range c.channels) :=
  Finset.surjOn_of_injOn_of_card_le _ (fun x _ => Finset.mem_coe.2 (Finset.mem_range.2 (mapChannel_lt c x)))
    (mapChannel_injOn c) le_rfl

/-- A channel past the end is clamped to the last one (40_mapper.md R141). -/
theorem mapChannel_of_ge {c : Config} {x : Nat} (h : c.channels ≤ x) :
    mapChannel c x = mapChannel c (c.channels - 1) := by
  have hclamp : clampChannel c x = clampChannel c (c.channels - 1) := by unfold clampChannel; omega
  rw [mapChannel, hclamp, ← mapChannel]

/-- Settles O17: on a finite range, injective into itself is bijective. -/
theorem mapIsBijection : Obligations.MapIsBijection := by
  refine fun c => ⟨mapChannel_lt c, fun x hx y hy h => ?_, fun p hp => ?_, fun x hx => mapChannel_of_ge hx⟩
  · exact mapChannel_injOn c (by simpa using hx) (by simpa using hy) h
  · simpa using mapChannel_surjOn c (by simpa using hp)

/-! ### The closed form -/

/-- The reversal of the chain reverses the device blocks and the positions within each block (40_mapper.md R146). -/
theorem reverseStage_remapStage {c : Config} {k : Nat} (hk : k < c.channels) :
    reverseStage c (remapStage c k) = 16 * (c.deviceCount - 1 - k / 16) + (15 - localPin c (k % 16)) := by
  have hpin := localPin_lt c (k % 16)
  rw [Config.channels_eq] at hk
  rw [reverseStage, remapStage, Config.channels_eq]
  omega

/-- Settles O18: the channel that Swap gives is below T, so no subtraction is cut off at 0. -/
theorem mapClosedForm : Obligations.MapClosedForm := by
  rintro c x k rfl
  exact reverseStage_remapStage (swapStage_lt (clampChannel_lt c x))

/-! ### Channel 0 -/

theorem swapPair_zero {p : Nat × Nat} (hp : p.1 ≠ 0 ∧ p.2 ≠ 0) : swapPair 0 p = 0 := by
  rw [swapPair, if_neg hp.1.symm, if_neg hp.2.symm]

/-- The index 0 is in no pair of SWAPS (40_mapper.md R147). -/
theorem swapStage_zero (c : Config) : swapStage c 0 = 0 := by
  obtain ⟨-, -, hzero, -⟩ := c.wf_iff
  refine List.foldlRecOn (motive := (· = 0)) c.swaps swapPair rfl fun x hx p hp => ?_
  rw [hx, swapPair_zero (hzero p hp)]

/-- LOCAL_PERM[0] = 0 (40_mapper.md R147). -/
theorem localPin_zero (c : Config) : localPin c 0 = 0 := by
  obtain ⟨-, -, -, -, -, hzero, -⟩ := c.wf_iff
  rw [localPin, List.getD_eq_getElem?_getD, hzero]
  rfl

theorem remapStage_zero (c : Config) : remapStage c 0 = 0 := localPin_zero c

/-- Settles O19: every stage before the reversal of the chain fixes 0. -/
theorem mapOfZero : Obligations.MapOfZero := by
  intro c
  rw [mapChannel, clampChannel_of_lt c.channels_pos, swapStage_zero, remapStage_zero]
  rfl

end Sys2Proof.Machine
end

section
/-! Pack against Unpack (41_packer.md): the two bytes that Pack writes (R161, R162), the same effect read on the
buffer's bit string (R165), and the round trip (R164). -/

namespace Sys2Proof.Machine

/-! ### The bytes of Pack -/

/-- Reading after a write to each of two neighbouring bytes. -/
theorem Memory.read_write_write_succ {bytes a : Nat} {x : Memory} (hx : x.wf bytes = true) (ha : a < bytes)
    (b b' : Byte) (k : Nat) :
    ((x.write a b).write (a + 1) b').read k = if a + 1 = k then b' else if a = k then b else x.read k := by
  rw [Memory.read_write (Memory.wf_write hx b ha), Memory.read_write hx]

/-- An even channel takes its first byte whole and the high nibble of its second (41_packer.md R161). -/
theorem read_pack_of_even {c : Config} {x : Memory} {i : Nat} (hx : x.wf c.bufferBytes = true) (hi : i < c.channels)
    (hpar : i % 2 = 0) (v : Level) (k : Nat) :
    (pack x i v).read k =
      if packBase i + 1 = k then v.extractLsb' 0 4 ++ (x.read (packBase i + 1)).extractLsb' 0 4
      else if packBase i = k then v.extractLsb' 4 8 else x.read k := by
  rw [pack, if_pos hpar, Memory.read_write_write_succ hx (Nat.lt_of_succ_lt (packBase_succ_lt hi))]

/-- An odd channel takes the low nibble of its first byte and its second byte whole (41_packer.md R162). -/
theorem read_pack_of_odd {c : Config} {x : Memory} {i : Nat} (hx : x.wf c.bufferBytes = true) (hi : i < c.channels)
    (hpar : i % 2 = 1) (v : Level) (k : Nat) :
    (pack x i v).read k =
      if packBase i + 1 = k then v.extractLsb' 0 8
      else if packBase i = k then (x.read (packBase i)).extractLsb' 4 4 ++ v.extractLsb' 8 4 else x.read k := by
  rw [pack, if_neg (by omega), Memory.read_write_write_succ hx (Nat.lt_of_succ_lt (packBase_succ_lt hi))]

/-- Every byte but the channel's two reads as before (20_memory.md R76). -/
theorem read_pack_other {c : Config} {x : Memory} {i : Nat} (hx : x.wf c.bufferBytes = true) (hi : i < c.channels)
    (v : Level) {k : Nat} (hfirst : k ≠ packBase i) (hsecond : k ≠ packBase i + 1) :
    (pack x i v).read k = x.read k := by
  rcases Nat.mod_two_eq_zero_or_one i with hpar | hpar
  · rw [read_pack_of_even hx hi hpar, if_neg hsecond.symm, if_neg hfirst.symm]
  · rw [read_pack_of_odd hx hi hpar, if_neg hsecond.symm, if_neg hfirst.symm]

/-- Settles O22: what is read at the two bytes, for each parity of the channel, and the frame. -/
theorem packWritesTwoBytes : Obligations.PackWritesTwoBytes := by
  refine fun c x i v hx hi => ⟨fun hpar => ?_, fun hpar => ?_, fun k => read_pack_other hx hi v⟩
  · simp [read_pack_of_even hx hi hpar, packBase]
  · simp [read_pack_of_odd hx hi hpar, packBase]

/-! ### The bits of Pack -/

/-- The low nibble is bits 3 … 0 of a byte, and the high nibble bits 7 … 4. -/
theorem getLsbD_nibbles (high low : BitVec 4) (b : Nat) :
    (high ++ low : Byte).getLsbD b = if b < 4 then low.getLsbD b else high.getLsbD (b - 4) := BitVec.getLsbD_append

/-- Pack replaces the 12 bits of its channel in the buffer's bit string and keeps every other bit (41_packer.md R160,
R165). The byte that two channels share has a nibble of each, and there the bit's nibble decides. -/
theorem getLsbD_read_pack {c : Config} {x : Memory} {i : Nat} (hx : x.wf c.bufferBytes = true) (hi : i < c.channels)
    (v : Level) (n : Nat) :
    ((pack x i v).read (n / 8)).getLsbD (7 - n % 8) =
      if n / 12 = i then v.getLsbD (11 - n % 12) else (x.read (n / 8)).getLsbD (7 - n % 8) := by
  have hbase : packBase i = 3 * i / 2 := rfl
  by_cases hfirst : n / 8 = packBase i
  · rcases Nat.mod_two_eq_zero_or_one i with hpar | hpar
    · have hlane : n / 12 = i := by omega
      have hbit : 4 + (7 - n % 8) = 11 - n % 12 := by omega
      simp [read_pack_of_even hx hi hpar, hfirst, hlane, hbit, show 7 - n % 8 < 8 by omega]
    · by_cases hlow : 7 - n % 8 < 4
      · have hlane : n / 12 = i := by omega
        have hbit : 8 + (7 - n % 8) = 11 - n % 12 := by omega
        simp [read_pack_of_odd hx hi hpar, getLsbD_nibbles, hfirst, hlow, hlane, hbit]
      · have hlane : n / 12 ≠ i := by omega
        have hbit : 4 + (7 - n % 8 - 4) = 7 - n % 8 := by omega
        simp [read_pack_of_odd hx hi hpar, getLsbD_nibbles, hfirst, hlow, hlane, hbit,
          show 7 - n % 8 - 4 < 4 by omega]
  by_cases hsecond : n / 8 = packBase i + 1
  · rcases Nat.mod_two_eq_zero_or_one i with hpar | hpar
    · by_cases hlow : 7 - n % 8 < 4
      · have hlane : n / 12 ≠ i := by omega
        simp [read_pack_of_even hx hi hpar, getLsbD_nibbles, hsecond, hlow, hlane]
      · have hlane : n / 12 = i := by omega
        have hbit : 7 - n % 8 - 4 = 11 - n % 12 := by omega
        simp [read_pack_of_even hx hi hpar, getLsbD_nibbles, hsecond, hlow, hlane, hbit,
          show 11 - n % 12 < 4 by omega]
    · have hlane : n / 12 = i := by omega
      have hbit : 7 - n % 8 = 11 - n % 12 := by omega
      simp [read_pack_of_odd hx hi hpar, hsecond, hlane, hbit, show 11 - n % 12 < 8 by omega]
  have hlane : n / 12 ≠ i := by omega
  rw [read_pack_other hx hi v hfirst hsecond, if_neg hlane]

/-- Channel j's bits stand at positions 12j to 12j + 11 of the bit string, and Pack writes those of channel i. -/
theorem getMsbD_unpack_pack {c : Config} {x : Memory} {i : Nat} (hx : x.wf c.bufferBytes = true) (hi : i < c.channels)
    (v : Level) (j : Nat) {m : Nat} (hm : m < 12) :
    (unpack (pack x i v) j).getMsbD m = if j = i then v.getMsbD m else (unpack x j).getMsbD m := by
  have hlane : (12 * j + m) / 12 = j := by omega
  have hpos : (12 * j + m) % 12 = m := by omega
  simp only [BitVec.getMsbD, hm, decide_true, Bool.true_and, Nat.add_one_sub_one, getLsbD_unpack _ _ hm,
    getLsbD_read_pack hx hi, hlane, hpos]

theorem unpack_pack_same {c : Config} {x : Memory} {i : Nat} (hx : x.wf c.bufferBytes = true) (hi : i < c.channels)
    (v : Level) : unpack (pack x i v) i = v :=
  BitVec.eq_of_getMsbD_eq fun _ hm => by rw [getMsbD_unpack_pack hx hi v i hm, if_pos rfl]

theorem unpack_pack_other {c : Config} {x : Memory} {i j : Nat} (hx : x.wf c.bufferBytes = true) (hi : i < c.channels)
    (v : Level) (hj : j ≠ i) : unpack (pack x i v) j = unpack x j :=
  BitVec.eq_of_getMsbD_eq fun _ hm => by rw [getMsbD_unpack_pack hx hi v j hm, if_neg hj]

/-- Settles O23: no two channels share a bit of the bit string, so the shared byte is no special case. -/
theorem packRoundTrip : Obligations.PackRoundTrip := by
  intro c x i v hx hi
  exact ⟨unpack_pack_same hx hi v, fun _ _ hj => unpack_pack_other hx hi v hj⟩

end Sys2Proof.Machine
end

section
/-! CoordinatorUpdate by the value of PENDING (42_coordinator.md R190), and what REQ makes of its answer (R193). -/

namespace Sys2Proof.Machine

/-- A pending frame refuses the update, and nothing is written (42_coordinator.md R191). -/
theorem coordinatorUpdate_of_pending {s : State} (hp : s.pending = true) : coordinatorUpdate s = (s, false) := by
  obtain ⟨-, h⟩ | ⟨hfree, -⟩ := coordinatorUpdate_cases s
  · exact h
  · simp [hp] at hfree

/-- With no frame pending the write buffer is queued (42_coordinator.md R192). -/
theorem coordinatorUpdate_of_not_pending {s : State} (hp : s.pending = false) :
    coordinatorUpdate s = (queueFrame s, true) := by
  obtain ⟨hbusy, -⟩ | ⟨-, h⟩ := coordinatorUpdate_cases s
  · simp [hp] at hbusy
  · exact h

/-- Once the block is armed, REQ is one CoordinatorUpdate whose answer is sent (42_coordinator.md R193). -/
theorem exec_req_of_armed {s : State} (ha : s.armed = true) :
    exec .req s = .next ((coordinatorUpdate s).1.respond (coordinatorUpdate s).2) := by
  simp [exec, execReq, ha]

/-- Settles O30: REQ adds only its answer, 0, to the state that the refused update leaves as it was. -/
theorem reqBusy : Obligations.ReqBusy := by
  refine fun s hp => ⟨coordinatorUpdate_of_pending hp, fun ha => ?_⟩
  rw [exec_req_of_armed ha, coordinatorUpdate_of_pending hp, State.respond]

/-- Settles O31: REQ adds only its answer, 1, to the state with the queued frame. -/
theorem reqAccepted : Obligations.ReqAccepted := by
  refine fun s hp => ⟨coordinatorUpdate_of_not_pending hp, fun ha => ?_⟩
  rw [exec_req_of_armed ha, coordinatorUpdate_of_not_pending hp, State.respond, queueFrame]

end Sys2Proof.Machine
end

section
/-! A TICK by its one decision (43_output_handler.md R210): the handler in terms of the state after its step 4, where
PENDING says whether a frame is shifted, and the events that follow from it (R220). -/

namespace Sys2Proof.Machine

/-- Once the block is armed, a TICK is the handler (60_exceptions.md R310). -/
theorem exec_tick_of_armed {s : State} (ha : s.armed = true) : exec .tick s = .next (outputHandler s) := by
  simp [exec, execTick, ha]

/-- The handler's state from `f`, the state after step 4 (43_output_handler.md R210): step 4 emits nothing and
keeps the configuration, so step 5 appends TB's bits, if any, right after the events of steps 1 to 3. -/
theorem outputHandler_eq {s f : State} (hf : fadeIfEnabled (blankLatchUnblank s) = f) :
    outputHandler s =
      { s with
        out := s.out ++ [.blank true] ++ (if s.awaitLatch then [.latch] else []) ++ [.blank false] ++
          (if f.pending then (gsStream s.cfg.bufferBytes f.tb).map .bit else [])
        blankPin := false
        awaitLatch := f.pending
        pending := false
        actual := f.actual
        wb := f.wb
        tb := f.tb } := by
  have hfade := fadeIfEnabled_eq (blankLatchUnblank s)
  rw [hf, blankLatchUnblank_eq] at hfade
  rw [outputHandler, hf, shiftStep_eq, hfade]
  simp

/-- Settles O38: the events are read off the handler's equation, and their number is the sum of their parts' lengths, the
part of TB's bits being 8 bits for each of 24 × N bytes. -/
theorem tickEvents : Obligations.TickEvents := by
  intro s ha
  generalize hf : fadeIfEnabled (blankLatchUnblank s) = f
  have hbits : 8 * s.cfg.bufferBytes = 192 * s.cfg.deviceCount := eight_mul_bufferBytes s.cfg
  refine ⟨outputHandler s, exec_tick_of_armed ha, ?_⟩
  rw [outputHandler_eq hf]
  refine ⟨rfl, ?_, rfl, rfl, rfl⟩
  simp only [List.length_append, apply_ite List.length, List.length_cons, List.length_nil, List.length_map,
    gsStream_length, hbits]
  split_ifs <;> omega

end Sys2Proof.Machine
end

section
/-! What tells two states apart: a canonical buffer is given by the channels unpacked from it (41_packer.md R163), and a
list of fade registers by its levels. -/

namespace Sys2Proof.Machine

/-! ### Buffers by their channels -/

/-- Every bit of a buffer belongs to a channel, so canonical buffers that unpack alike are the same data. -/
theorem Memory.ext_of_unpack {c : Config} {x y : Memory} (hx : x.wf c.bufferBytes = true)
    (hy : y.wf c.bufferBytes = true) (h : ∀ i < c.channels, unpack x i = unpack y i) : x = y := by
  refine Memory.ext_of_wf hx hy fun k hk => BitVec.eq_of_getLsbD_eq fun b hb => ?_
  have hi : (8 * k + (7 - b)) / 12 < c.channels := by
    rw [Config.channels_eq]
    rw [Config.bufferBytes] at hk
    omega
  have hbit (z : Memory) :
      (unpack z ((8 * k + (7 - b)) / 12)).getLsbD (11 - (8 * k + (7 - b)) % 12) = (z.read k).getLsbD b := by
    rw [getLsbD_unpack z _ (Nat.mod_lt _ (by omega)), Nat.div_add_mod]
    congr 2 <;> omega
  rw [← hbit, ← hbit, h _ hi]

theorem mapChannel_inj {c : Config} {l m : Nat} (hl : l < c.channels) (hm : m < c.channels)
    (h : mapChannel c l = mapChannel c m) : l = m :=
  mapChannel_injOn c (by simpa using hl) (by simpa using hm) h

/-- Map reaches every physical position, so the logical channels may be unpacked instead (40_mapper.md R148). -/
theorem Memory.ext_of_unpack_mapChannel {c : Config} {x y : Memory} (hx : x.wf c.bufferBytes = true)
    (hy : y.wf c.bufferBytes = true)
    (h : ∀ l < c.channels, unpack x (mapChannel c l) = unpack y (mapChannel c l)) : x = y := by
  refine Memory.ext_of_unpack hx hy fun i hi => ?_
  obtain ⟨l, hl, rfl⟩ := mapChannel_surjOn c (by simpa using hi : i ∈ (Finset.range c.channels : Set Nat))
  exact h l (by simpa using hl)

/-! ### The fade registers -/

theorem levelAt_set {xs : List Level} {l : Nat} (hl : l < xs.length) (v : Level) (m : Nat) :
    levelAt (xs.set l v) m = if l = m then v else levelAt xs m := by
  rw [levelAt, levelAt, List.getD_eq_getElem?_getD, List.getElem?_set, List.getD_eq_getElem?_getD]
  split_ifs <;> rfl

theorem ext_of_levelAt {xs ys : List Level} (hlen : xs.length = ys.length) (h : ∀ l, levelAt xs l = levelAt ys l) :
    xs = ys :=
  List.ext_getElem hlen fun l hx hy => by
    simpa only [levelAt, List.getD_eq_getElem _ _ hx, List.getD_eq_getElem _ _ hy] using h l

/-! ### The canonical form of a state -/

theorem State.wf_iff (s : State) :
    s.wf = true ↔ s.wb.wf s.cfg.bufferBytes = true ∧ s.tb.wf s.cfg.bufferBytes = true ∧
      s.target.length = s.cfg.channels ∧ s.actual.length = s.cfg.channels ∧ s.faultCause.toNat ≤ 4 := by
  simp [State.wf, and_assoc]

end Sys2Proof.Machine
end

section
/-! The fade engine's loop (44_fade.md R240): one channel's new level (R241–R244), and what the loop leaves after the
channels it has taken, in whatever order they came (R247, R248, R250). -/

namespace Sys2Proof.Machine

/-! ### One channel's level -/

/-- A 12-bit register keeps a value in [0, 4095], which the defensive clamp does not change (44_fade.md R244). -/
theorem toNat_levelOfInt_clampInt {n : Int} (hlo : 0 ≤ n) (hhi : n ≤ 4095) :
    ((levelOfInt (clampInt n 0 4095)).toNat : Int) = n := by
  have hclamp : clampInt n 0 4095 = n := by unfold clampInt; omega
  rw [hclamp, levelOfInt, BitVec.toNat_ofInt]
  omega

/-- Up by FADE_ON and not past the target (44_fade.md R242). -/
theorem toNat_fadeLevel_of_lt {a t : Level} (on off : Level) (h : a.toNat < t.toNat) :
    ((fadeLevel on off a t).toNat : Int) = min ((a.toNat : Int) + on.toNat) t.toNat := by
  have hne : a ≠ t := by rintro rfl; exact h.false
  rw [fadeLevel, if_pos hne, fadeMove, if_pos h.le]
  exact toNat_levelOfInt_clampInt (by omega) (by omega)

/-- Down by FADE_OFF and not past the target (44_fade.md R243). -/
theorem toNat_fadeLevel_of_gt {a t : Level} (on off : Level) (h : t.toNat < a.toNat) :
    ((fadeLevel on off a t).toNat : Int) = max ((a.toNat : Int) - off.toNat) t.toNat := by
  have hne : a ≠ t := by rintro rfl; exact h.false
  rw [fadeLevel, if_pos hne, fadeMove, if_neg h.not_ge]
  exact toNat_levelOfInt_clampInt (by omega) (by omega)

/-- A channel at its target takes no part (44_fade.md R241). -/
@[simp] theorem fadeLevel_self (on off a : Level) : fadeLevel on off a a = a := if_neg (not_not.2 rfl)

/-! ### The loop -/

/-- ACTUAL[l] after a fade step that begins in `s` (44_fade.md R240). -/
def fadedLevel (s : State) (l : Nat) : Level :=
  fadeLevel s.fadeOn s.fadeOff (levelAt s.actual l) (levelAt s.target l)

/-- Channel `l` has another level in `t` than in `s` (44_fade.md R248). -/
abbrev levelChanged (s t : State) (l : Nat) : Prop := levelAt t.actual l ≠ levelAt s.actual l

/-- What the loop of R240 leaves once it has taken the channels `taken` from `s`: they have their new levels, and
WB and `changed` are what the changes of level make them (44_fade.md R247, R248). -/
structure FadedFrom (s : State) (taken : List Nat) (q : State × Bool) : Prop where
  frame : q.1 = { s with actual := q.1.actual, wb := q.1.wb }
  actual_length : q.1.actual.length = s.cfg.channels
  wb_wf : q.1.wb.wf s.cfg.bufferBytes = true
  level : ∀ l, levelAt q.1.actual l = if l ∈ taken then fadedLevel s l else levelAt s.actual l
  channel : ∀ l < s.cfg.channels,
    unpack q.1.wb (mapChannel s.cfg l) =
      if levelAt q.1.actual l = levelAt s.actual l then unpack s.wb (mapChannel s.cfg l) else levelAt q.1.actual l
  byte : ∀ k, (∀ l < s.cfg.channels, levelChanged s q.1 l →
      k ≠ packBase (mapChannel s.cfg l) ∧ k ≠ packBase (mapChannel s.cfg l) + 1) → q.1.wb.read k = s.wb.read k
  changed : q.2 = true ↔ ∃ l < s.cfg.channels, levelChanged s q.1 l

theorem FadedFrom.nil {s : State} (hs : s.wf = true) : FadedFrom s [] (s, false) := by
  obtain ⟨hwb, -, -, hlen, -⟩ := s.wf_iff.1 hs
  exact ⟨rfl, hlen, hwb, by simp, by simp, by simp, by simp⟩

/-- A channel that is not changed leaves the loop as it was, its new level being the old one. -/
theorem FadedFrom.snoc_same {s : State} {taken : List Nat} {q : State × Bool} (h : FadedFrom s taken q) {l : Nat}
    (hsame : fadedLevel s l = levelAt s.actual l) : FadedFrom s (taken ++ [l]) q where
  __ := h
  level m := by
    rw [h.level]
    by_cases hm : m = l
    · simp [hm, hsame]
    · simp [hm]

/-- A changed channel has one register and 12 bits of WB written, and no other channel's (44_fade.md R250). -/
theorem FadedFrom.snoc_changed {s : State} {taken : List Nat} {q : State × Bool} (h : FadedFrom s taken q) {l : Nat}
    (hl : l < s.cfg.channels) (hfresh : l ∉ taken) (hne : fadedLevel s l ≠ levelAt s.actual l) :
    FadedFrom s (taken ++ [l]) (writeFaded q.1 l (fadedLevel s l), true) := by
  have hcfg : q.1.cfg = s.cfg := by rw [h.frame]
  have hpos := mapChannel_lt s.cfg l
  have hold : levelAt q.1.actual l = levelAt s.actual l := by rw [h.level, if_neg hfresh]
  have hset (m : Nat) := levelAt_set (h.actual_length ▸ hl) (fadedLevel s l) m
  refine ⟨?frame, ?actual_length, ?wb_wf, ?level, ?channel, ?byte, ?changed⟩
  case frame => rw [h.frame]; rfl
  case actual_length => simp [h.actual_length]
  case wb_wf => simpa [hcfg] using pack_wf h.wb_wf hpos _
  case level =>
    intro m
    rw [writeFaded_actual, hset, h.level]
    by_cases hm : l = m
    · simp [hm]
    · simp [hm, Ne.symm hm]
  case channel =>
    intro m hm
    rw [writeFaded_actual, writeFaded_wb, hcfg, hset]
    by_cases hlm : l = m
    · subst hlm
      rw [unpack_pack_same h.wb_wf hpos, if_pos rfl, if_neg hne]
    · have hother : mapChannel s.cfg m ≠ mapChannel s.cfg l := fun heq => hlm (mapChannel_inj hm hl heq).symm
      rw [unpack_pack_other h.wb_wf hpos _ hother, if_neg hlm, h.channel m hm]
  case byte =>
    intro k hk
    simp only [levelChanged, writeFaded_actual, hset] at hk
    obtain ⟨hfirst, hsecond⟩ := hk l hl (by simpa using hne)
    rw [writeFaded_wb, hcfg, read_pack_other h.wb_wf hpos _ hfirst hsecond]
    refine h.byte k fun m hm hchanged => hk m hm ?_
    have hlm : l ≠ m := fun heq => hchanged (heq ▸ hold)
    rwa [if_neg hlm]
  case changed => simpa using ⟨l, hl, by simpa [hset] using hne⟩

/-- One iteration takes one more channel. -/
theorem FadedFrom.snoc {s : State} {taken : List Nat} {q : State × Bool} (h : FadedFrom s taken q) {l : Nat}
    (hl : l < s.cfg.channels) (hfresh : l ∉ taken) : FadedFrom s (taken ++ [l]) (fadeChannel q l) := by
  have hold : levelAt q.1.actual l = levelAt s.actual l := by rw [h.level, if_neg hfresh]
  have hnew : fadeLevel q.1.fadeOn q.1.fadeOff (levelAt q.1.actual l) (levelAt q.1.target l) = fadedLevel s l := by
    rw [hold, h.frame, fadedLevel]
  obtain ⟨hsame, hq⟩ | ⟨hne, hq⟩ := fadeChannel_cases q l
  · rw [hnew, hold] at hsame
    rw [hq]
    exact h.snoc_same hsame
  · rw [hnew, hold] at hne
    rw [hq, hnew]
    exact h.snoc_changed hl hfresh hne

/-- The loop over distinct channels, in whatever order they come. -/
theorem fadeLoop_fadedFrom {s : State} {order : List Nat} (hs : s.wf = true) (hnodup : order.Nodup)
    (hlt : ∀ l ∈ order, l < s.cfg.channels) : FadedFrom s order (fadeLoop order s) := by
  induction order using List.reverseRecOn with
  | nil => exact .nil hs
  | append_singleton taken l ih =>
    obtain ⟨hnodup, -, hfresh⟩ := List.nodup_append.1 hnodup
    rw [fadeLoop, List.foldl_append]
    exact (ih hnodup fun m hm => hlt m (by simp [hm])).snoc (hlt l (by simp)) fun hmem => hfresh l hmem l (by simp) rfl

/-- The loop of the fade step takes every channel, in ascending order (44_fade.md R240). -/
theorem fadeAll_fadedFrom {s : State} (hs : s.wf = true) : FadedFrom s (List.range s.cfg.channels) (fadeAll s) :=
  fadeLoop_fadedFrom hs List.nodup_range fun _ => List.mem_range.1

/-- The levels decide everything the loop leaves, and the channels taken decide the levels. -/
theorem FadedFrom.eq_of_mem_iff {s : State} {xs ys : List Nat} {p q : State × Bool} (hp : FadedFrom s xs p)
    (hq : FadedFrom s ys q) (hmem : ∀ l, l ∈ xs ↔ l ∈ ys) : p = q := by
  have hactual : p.1.actual = q.1.actual :=
    ext_of_levelAt (hp.actual_length.trans hq.actual_length.symm) fun l => by simp only [hp.level, hq.level, hmem]
  have hwb : p.1.wb = q.1.wb :=
    Memory.ext_of_unpack_mapChannel hp.wb_wf hq.wb_wf fun l hl => by rw [hp.channel l hl, hq.channel l hl, hactual]
  have hchanged : p.2 = q.2 := Bool.eq_iff_iff.2 (by simp only [hp.changed, hq.changed, levelChanged, hactual])
  refine Prod.ext ?_ hchanged
  rw [hp.frame, hq.frame, hactual, hwb]

/-- Settles O41: what the loop leaves depends only on which channels it has taken. -/
theorem fadeOrderUnobservable : Obligations.FadeOrderUnobservable := by
  intro s order hs hperm
  have hlt : ∀ l ∈ order, l < s.cfg.channels := fun l hl => List.mem_range.1 (hperm.mem_iff.1 hl)
  have hloop := fadeLoop_fadedFrom hs (hperm.nodup_iff.2 List.nodup_range) hlt
  exact hloop.eq_of_mem_iff (fadeAll_fadedFrom hs) fun _ => hperm.mem_iff

end Sys2Proof.Machine
end

section
/-! The fade step of a TICK with its one request (44_fade.md R249), and SETF (R252, R253). -/

namespace Sys2Proof.Machine

/-! ### The fade step of a TICK -/

/-- One request, if a channel changed, which a pending frame drops (44_fade.md R249). -/
theorem fadeStep_eq (s : State) :
    fadeStep s =
      { (fadeAll s).1 with
        tb := if (fadeAll s).2 = true ∧ s.pending = false then (fadeAll s).1.wb else s.tb
        pending := s.pending || (fadeAll s).2 } := by
  obtain ⟨hnone, h⟩ | ⟨hchanged, hfree, h⟩ := fadeStep_cases s
  · rw [h, fadeAll_eq]
    rcases hnone with hsame | hbusy
    · simp [hsame]
    · simp [hbusy]
  · rw [h, if_pos ⟨hchanged, hfree⟩, hchanged, Bool.or_true, queueFrame]

@[simp] theorem fadeStep_actual (s : State) : (fadeStep s).actual = (fadeAll s).1.actual := by rw [fadeStep_eq]
@[simp] theorem fadeStep_wb (s : State) : (fadeStep s).wb = (fadeAll s).1.wb := by rw [fadeStep_eq]
@[simp] theorem fadeStep_tb (s : State) :
    (fadeStep s).tb = if (fadeAll s).2 = true ∧ s.pending = false then (fadeAll s).1.wb else s.tb := by rw [fadeStep_eq]
@[simp] theorem fadeStep_pending (s : State) : (fadeStep s).pending = (s.pending || (fadeAll s).2) := by rw [fadeStep_eq]

theorem blankLatchUnblank_wf {s : State} (hs : s.wf = true) : (blankLatchUnblank s).wf = true := by
  rw [blankLatchUnblank_eq]
  exact hs

/-- Steps 1 to 3 write nothing that the loop reads or writes. -/
theorem fadeAll_blankLatchUnblank {s : State} (hs : s.wf = true) :
    fadeAll (blankLatchUnblank s) =
      ({ blankLatchUnblank s with actual := (fadeAll s).1.actual, wb := (fadeAll s).1.wb }, (fadeAll s).2) := by
  have h := fadeAll_fadedFrom hs
  have hu := fadeAll_fadedFrom (blankLatchUnblank_wf hs)
  rw [blankLatchUnblank_eq] at hu ⊢
  refine hu.eq_of_mem_iff ?_ fun _ => Iff.rfl
  exact ⟨rfl, h.actual_length, h.wb_wf, h.level, h.channel, h.byte, h.changed⟩

/-- So the fade step of a TICK is the fade step of the state that the TICK begins in. -/
theorem fadeStep_blankLatchUnblank {s : State} (hs : s.wf = true) :
    fadeStep (blankLatchUnblank s) =
      { blankLatchUnblank s with
        actual := (fadeStep s).actual
        wb := (fadeStep s).wb
        tb := (fadeStep s).tb
        pending := (fadeStep s).pending } := by
  rw [fadeStep_eq, fadeAll_blankLatchUnblank hs, blankLatchUnblank_eq]
  simp

/-- TICK in the fade variant, all of it, by what the fade step makes of `s` (43_output_handler.md R210). -/
theorem exec_tick_of_fadeEnabled {s : State} (hs : s.wf = true) (ha : s.armed = true)
    (hf : s.cfg.fadeEnabled = true) :
    exec .tick s = .next { s with
      out := s.out ++ [.blank true] ++ (if s.awaitLatch then [.latch] else []) ++ [.blank false] ++
        (if (fadeStep s).pending then (gsStream s.cfg.bufferBytes (fadeStep s).tb).map .bit else [])
      blankPin := false
      awaitLatch := (fadeStep s).pending
      pending := false
      actual := (fadeStep s).actual
      wb := (fadeStep s).wb
      tb := (fadeStep s).tb } := by
  have hfade : fadeIfEnabled (blankLatchUnblank s) = fadeStep (blankLatchUnblank s) := by
    rw [fadeIfEnabled, blankLatchUnblank_eq, if_pos hf]
  rw [exec_tick_of_armed ha, outputHandler_eq hfade, fadeStep_blankLatchUnblank hs]

/-- Settles O40: but for the three cases of a level, each clause is what the loop over every channel leaves. -/
theorem tickFadesEveryChannel : Obligations.TickFadesEveryChannel := by
  intro s hs ha hf
  have hloop := fadeAll_fadedFrom hs
  refine ⟨_, exec_tick_of_fadeEnabled hs ha hf, ?_⟩
  simp only [fadeStep_actual, fadeStep_wb, fadeStep_tb, fadeStep_pending]
  refine ⟨?_, hloop.channel, hloop.byte, if_congr (and_congr_left' hloop.changed) rfl rfl, ?_⟩
  · rintro l hl a d n rfl rfl rfl
    rw [hloop.level, if_pos (List.mem_range.2 hl), fadedLevel]
    refine ⟨fun hup => ?_, fun hdown => toNat_fadeLevel_of_gt _ _ hdown, fun hsettled => ?_⟩
    · exact_mod_cast toNat_fadeLevel_of_lt _ _ hup
    · rw [← BitVec.eq_of_toNat_eq hsettled, fadeLevel_self]
  · rw [Bool.or_eq_true, hloop.changed]

/-! ### SETF -/

/-- Settles O29: the variant is not read, so ARMED is the only case split. -/
theorem setfEffect : Obligations.SetfEffect := by
  refine fun s on off => ⟨fun ha => ?_, fun ha => ?_⟩
  · simp [exec, execSetf, ha, State.raiseFault, recordedCause, faultNumber]
  · simp [exec, execSetf, ha, setRates, rateOperand]

end Sys2Proof.Machine
end

section
/-! DCStream (45_init.md R274): the channel at each physical position, that channel's six bits there, and the stream of
the default table. -/

namespace Sys2Proof.Machine

/-! ### The channel at a physical position -/

/-- The search finds the channel that Map sends to the position, the only one below T (40_mapper.md R148). -/
theorem logicalAt_mapChannel {c : Config} {l : Nat} (hl : l < c.channels) : logicalAt c (mapChannel c l) = l := by
  have hfind : (List.range c.channels).find? (fun m => mapChannel c m == mapChannel c l) = some l := by
    refine List.find?_range_eq_some.2 ⟨beq_self_eq_true _, List.mem_range.2 hl, fun m hm => ?_⟩
    have hne : mapChannel c m ≠ mapChannel c l := fun heq => hm.ne (mapChannel_inj (hm.trans hl) hl heq)
    simpa using hne
  rw [logicalAt, hfind, Option.getD_some]

theorem logicalAt_lt {c : Config} {p : Nat} (hp : p < c.channels) : logicalAt c p < c.channels := by
  obtain ⟨l, hl, rfl⟩ := mapChannel_surjOn c (by simpa using hp : p ∈ (Finset.range c.channels : Set Nat))
  rw [Finset.mem_coe, Finset.mem_range] at hl
  rwa [logicalAt_mapChannel hl]

/-! ### The bits of the stream -/

/-- Stream bits 6p … 6p + 5 are bits 5 … 0 of the entry of the channel at position p. -/
theorem getElem?_dcStream {c : Config} {p j : Nat} (hp : p < c.channels) (hj : j < 6) :
    (dcStream c)[6 * p + j]? = some ((c.dcTable.getD (logicalAt c p) 0#6).getLsbD (5 - j)) := by
  rw [dcStream, getElem?_flatMap_range (fun _ => msbFirst_length _) hp hj, getElem?_msbFirst _ hj]

/-- The default table has the entry 63 for whichever channel is at a position, so Map is not read. -/
theorem dcStream_of_defaultTable {c : Config} (htable : c.dcTable = List.replicate c.channels 63#6) :
    dcStream c = List.replicate c.correctionBits true := by
  refine List.eq_replicate_iff.2 ⟨dcStream_length c, fun b hb => ?_⟩
  obtain ⟨p, hp, hbit⟩ := List.mem_flatMap.1 hb
  have hentry : c.dcTable.getD (logicalAt c p) 0#6 = 63#6 := by
    rw [htable, List.getD_replicate _ (logicalAt_lt (List.mem_range.1 hp))]
  have hbits : msbFirst 63#6 = List.replicate 6 true := by decide
  rw [hentry, hbits] at hbit
  exact List.eq_of_mem_replicate hbit

/-- Settles O46: a channel's bits stand at its position because the search gives back the channel there. -/
theorem dotCorrectionStream : Obligations.DotCorrectionStream := by
  refine fun c => ⟨dcStream_length c, fun l hl j hj => ?_, dcStream_of_defaultTable⟩
  rw [getElem?_dcStream (mapChannel_lt c l) hj, logicalAt_mapChannel hl]

end Sys2Proof.Machine
end

section
/-! The events of an accepted INIT, phase by phase (45_init.md R272–R277). -/

namespace Sys2Proof.Machine

@[simp] theorem writeDotCorrection_cfg (s : State) : (writeDotCorrection s).cfg = s.cfg := rfl

/-- Phase (a) (45_init.md R272, R273). -/
theorem writeDotCorrection_out (s : State) :
    (writeDotCorrection s).out =
      s.out ++ [.blank true, .mode true] ++ (dcStream s.cfg).map .bit ++ [.latch, .mode false] := by
  simp [writeDotCorrection]

/-- Phase (b) (45_init.md R275, R276). -/
theorem seedGrayscale_out (s : State) :
    (seedGrayscale s).out = s.out ++ List.replicate s.cfg.frameBits (.bit false) ++ [.latch, .extraClock] := by
  simp [seedGrayscale]

/-- Before the block is armed, INIT is its three phases (45_init.md R270). -/
theorem exec_init_of_not_armed {s : State} (ha : s.armed = false) :
    exec .init s = .next (arm (seedGrayscale (writeDotCorrection s))) := by
  simp [exec, execInit, ha]

/-- Settles O45: the events are those of phases (a) and (b), the bits of (a) being DCStream. -/
theorem initEventTotal : Obligations.InitEventTotal := by
  intro s ha
  have hout := seedGrayscale_out (writeDotCorrection s)
  rw [writeDotCorrection_out, writeDotCorrection_cfg, Config.frameBits] at hout
  have hbits : (dcStream s.cfg).length = 96 * s.cfg.deviceCount := dcStream_length s.cfg
  refine ⟨_, dcStream s.cfg, exec_init_of_not_armed ha, hbits, hout, ?_⟩
  rw [arm_out, hout]
  simp only [List.length_append, List.length_cons, List.length_nil, List.length_map, List.length_replicate, hbits]
  omega

end Sys2Proof.Machine
end

section
/-! The checks of a command word (60_exceptions.md R302–R305): the ARMED check, which comes last, and what a step makes
of the first check that fails. -/

namespace Sys2Proof

/-- A decoded operation comes with its own opcode (30_encoding.md R111). -/
theorem opcode_of_decodeCommand_ok {w : Word} {i : Instr} (hd : decodeCommand w = .ok i) :
    w.toNat / 2 ^ 28 = i.opcode.toNat := by
  rcases decodeCommand_cases w with ⟨hop, -, h⟩ | ⟨hop, h⟩ | ⟨hop, -, h⟩ | ⟨hop, -, h⟩ | ⟨-, h⟩ | ⟨-, h⟩ <;>
    cases h.symm.trans hd <;> exact hop

/-- The command port carries no TICK (30_encoding.md R109). -/
theorem ne_tick_of_decodeCommand_ok {w : Word} {i : Instr} (hd : decodeCommand w = .ok i) : i ≠ .tick := by
  rintro rfl
  have hop : w.toNat / 2 ^ 28 = 7 := opcode_of_decodeCommand_ok hd
  have hbad : decodeCommand w = .bad .illegalCommand := (decodeCommand_eq_bad_iff w _).2 (.inl ⟨rfl, by omega⟩)
  cases hbad.symm.trans hd

end Sys2Proof

namespace Sys2Proof.Machine

/-! ### The ARMED check -/

/-- A second INIT is ignored (60_exceptions.md R303). -/
theorem exec_init_of_armed {s : State} (ha : s.armed = true) : exec .init s = .next (s.raiseFault .reinit false) := by
  simp [exec, execInit, ha]

/-- Before the block is armed, every other command is ignored, and REQ answers 0 (60_exceptions.md R302). -/
theorem exec_of_not_armed {i : Instr} {s : State} (hinit : i ≠ .init) (htick : i ≠ .tick) (ha : s.armed = false) :
    exec i s = .next (s.raiseFault .notInitialized (decide (i = .req))) := by
  cases i with
  | init => exact absurd rfl hinit
  | setb ch val => simp [exec, execSetb, ha]
  | setf on off => simp [exec, execSetf, ha]
  | req => simp [exec, execReq, ha]
  | tick => exact absurd rfl htick

theorem coordinatorUpdate_faultCause (s : State) : (coordinatorUpdate s).1.faultCause = s.faultCause := by
  obtain ⟨-, h⟩ | ⟨-, h⟩ := coordinatorUpdate_cases s <;> simp [h]

theorem outputHandler_faultCause (s : State) : (outputHandler s).faultCause = s.faultCause := by
  rw [outputHandler_eq (f := fadeIfEnabled (blankLatchUnblank s)) rfl]

@[simp] theorem writeDotCorrection_faultCause (s : State) : (writeDotCorrection s).faultCause = s.faultCause := by
  simp [writeDotCorrection]

@[simp] theorem seedGrayscale_faultCause (s : State) : (seedGrayscale s).faultCause = s.faultCause := by
  simp [seedGrayscale]

/-- An accepted INIT arms the block and records nothing (45_init.md R277). -/
theorem exec_init_accepted {s : State} (ha : s.armed = false) :
    ∃ t, exec .init s = .next t ∧ t.armed = true ∧ t.faultCause = s.faultCause :=
  ⟨_, exec_init_of_not_armed ha, arm_armed _, by simp⟩

/-- An operation that passes the ARMED check, which asks ARMED = 0 of INIT and ARMED = 1 of the rest, runs and records
nothing (60_exceptions.md R302, R303). -/
theorem exec_of_armed_iff {i : Instr} {s : State} (hpass : s.armed = true ↔ i ≠ .init) :
    ∃ t, exec i s = .next t ∧ t.faultCause = s.faultCause := by
  cases i with
  | init =>
    obtain ⟨t, hexec, -, ht⟩ := exec_init_accepted (s := s) (by simpa using hpass)
    exact ⟨t, hexec, ht⟩
  | setb ch val =>
    have ha : s.armed = true := hpass.2 nofun
    cases hf : s.cfg.fadeEnabled
    · exact ⟨packChannel s ch.toNat (brightnessOperand val), by simp [exec, execSetb, ha, hf], rfl⟩
    · exact ⟨setTarget s (channelOperand s.cfg ch) (brightnessOperand val), by simp [exec, execSetb, ha, hf], rfl⟩
  | setf on off =>
    have ha : s.armed = true := hpass.2 nofun
    exact ⟨setRates s on off, by simp [exec, execSetf, rateOperand, ha], rfl⟩
  | req => exact ⟨_, exec_req_of_armed (hpass.2 nofun), coordinatorUpdate_faultCause s⟩
  | tick => exact ⟨_, exec_tick_of_armed (hpass.2 nofun), outputHandler_faultCause s⟩

/-- Settles O12: the ignored INIT only records its fault. -/
theorem reinitIgnored : Obligations.ReinitIgnored :=
  fun _ ha => exec_init_of_armed ha

/-- Settles O11: the three ignored commands only record their fault, and INIT passes the ARMED check. -/
theorem notInitializedIgnored : Obligations.NotInitializedIgnored := by
  intro s ha
  exact ⟨fun _ _ => exec_of_not_armed nofun nofun ha, fun _ _ => exec_of_not_armed nofun nofun ha,
    exec_of_not_armed nofun nofun ha, exec_init_accepted ha⟩

/-! ### The first check that fails -/

/-- The code of the first check that a word fails, in the order opcode, reserved bits, ARMED (60_exceptions.md R305); 0
where it passes them all. -/
def firstFailure (armed : Bool) (w : Word) : BitVec 4 :=
  if w.toNat / 2 ^ 28 = 0 ∨ 5 ≤ w.toNat / 2 ^ 28 then faultNumber .illegalCommand
  else if Word.violatesReserved w then faultNumber .reservedBits
  else if w.toNat / 2 ^ 28 ≠ 1 ∧ armed = false then faultNumber .notInitialized
  else if w.toNat / 2 ^ 28 = 1 ∧ armed = true then faultNumber .reinit
  else 0#4

/-- The decoder's fault is the first failure, whatever ARMED is. -/
theorem firstFailure_of_bad {w : Word} {c : FaultCode} (hd : decodeCommand w = .bad c) (armed : Bool) :
    firstFailure armed w = faultNumber c := by
  obtain ⟨rfl, hop⟩ | ⟨rfl, hres⟩ := (decodeCommand_eq_bad_iff w c).1 hd
  · exact if_pos hop
  · rw [firstFailure, if_neg (by omega), if_pos hres]

/-- Where the word decodes, only the ARMED check is left to fail. -/
theorem firstFailure_of_ok {w : Word} {i : Instr} (hd : decodeCommand w = .ok i) (armed : Bool) :
    firstFailure armed w =
      if i ≠ .init ∧ armed = false then faultNumber .notInitialized
      else if i = .init ∧ armed = true then faultNumber .reinit
      else 0#4 := by
  have hbad (c : FaultCode) : decodeCommand w ≠ .bad c := by simp [hd]
  have hlegal : ¬(w.toNat / 2 ^ 28 = 0 ∨ 5 ≤ w.toNat / 2 ^ 28) :=
    fun hop => hbad _ ((decodeCommand_eq_bad_iff w _).2 (.inl ⟨rfl, hop⟩))
  have hclear : ¬Word.violatesReserved w := fun hres => hbad _ ((decodeCommand_eq_bad_iff w _).2 (.inr ⟨rfl, hres⟩))
  have hinit : w.toNat / 2 ^ 28 = 1 ↔ i = .init := by
    rw [opcode_of_decodeCommand_ok hd]
    cases i <;> simp [Instr.opcode]
  rw [firstFailure, if_neg hlegal, if_neg hclear]
  simp only [ne_eq, hinit]

/-- A command word's step records the first check that fails, and its answer if its opcode is 0x4, or the word passes
every check and its operation records nothing (60_exceptions.md R304, R305). -/
theorem step_command_cases {s : State} {w : Word} {rest : List PortEvent} (hi : s.inputs = .command w :: rest) :
    (∃ c, firstFailure s.armed w = faultNumber c ∧
      step s = .next ((s.take rest).raiseFault c (decide (w.toNat / 2 ^ 28 = 4)))) ∨
    (firstFailure s.armed w = 0#4 ∧ ∃ t, step s = .next t ∧ t.faultCause = s.faultCause) := by
  cases hd : decodeCommand w with
  | bad c => exact .inl ⟨c, firstFailure_of_bad hd s.armed, step_of_decodeCommand_bad hi hd⟩
  | ok i =>
    have hop := opcode_of_decodeCommand_ok hd
    rw [step_of_decodeCommand_ok hi hd, firstFailure_of_ok hd, hop]
    by_cases hinit : i = .init
    · subst hinit
      cases ha : s.armed with
      | true => exact .inl ⟨.reinit, rfl, exec_init_of_armed ha⟩
      | false => exact .inr ⟨rfl, exec_of_armed_iff (s := s.take rest) (by simp [ha])⟩
    · cases ha : s.armed with
      | false =>
        have hreq : decide (i.opcode.toNat = 4) = decide (i = .req) := by cases i <;> simp [Instr.opcode]
        rw [hreq]
        exact .inl ⟨.notInitialized, by simp [hinit], exec_of_not_armed hinit (ne_tick_of_decodeCommand_ok hd) ha⟩
      | true => exact .inr ⟨by simp [hinit], exec_of_armed_iff (s := s.take rest) (by simp [ha, hinit])⟩

/-- Settles O13: where nothing is recorded yet, the first failure's code is what FAULT_CAUSE takes. -/
theorem oneCausePerWord : Obligations.OneCausePerWord := by
  intro s w rest hi hnone
  change ∃ t, step s = .next t ∧ t.faultCause = firstFailure s.armed w
  obtain ⟨c, hc, hstep⟩ | ⟨hc, t, hstep, ht⟩ := step_command_cases hi
  · exact ⟨_, hstep, by simp [recordedCause, hnone, hc]⟩
  · exact ⟨t, hstep, by rw [ht, hnone, hc]⟩

/-- A step that takes no command word records nothing: faults are synchronous (60_exceptions.md R307). -/
theorem step_faultCause_of_no_command {s t : State} (hne : ∀ w rest, s.inputs ≠ .command w :: rest)
    (hstep : step s = .next t) : t.faultCause = s.faultCause := by
  rcases step_cases hstep with ⟨-, rfl⟩ | ⟨w, rest, -, hi, -⟩ | ⟨w, rest, -, hi, -⟩ | ⟨rest, -, -, rfl⟩ |
    ⟨rest, -, ha, hexec⟩
  · rfl
  · exact absurd hi (hne w rest)
  · exact absurd hi (hne w rest)
  · rfl
  · rw [exec_tick_of_armed (s := s.take rest) ha] at hexec
    injection hexec with ht
    rw [← ht, outputHandler_faultCause, State.take_faultCause]

/-- Settles O14: a failing word's step is the recording of its first failure, which writes FAULT_CAUSE and RESP only. -/
theorem faultsArePrecise : Obligations.FaultsArePrecise := by
  refine fun s => ⟨fun w rest code hi hcode hne => ?_, fun t => step_faultCause_of_no_command⟩
  change code = firstFailure s.armed w at hcode
  obtain ⟨c, hc, hstep⟩ | ⟨hc, -⟩ := step_command_cases hi
  · rw [hstep, hcode, hc]
    by_cases hreq : w.toNat / 2 ^ 28 = 4
    · rw [if_pos hreq, decide_eq_true hreq]
      rfl
    · rw [if_neg hreq, decide_eq_false hreq]
      rfl
  · exact absurd (hcode.trans hc) hne

end Sys2Proof.Machine
end

section
/-! The encoder against the decoder (30_encoding.md R103–R111): the word of each operation as a number, the decoder with
its fields read off that number, and the operands that an assembler keeps (R121). -/

namespace Sys2Proof

/-! ### The operand fields as arithmetic on the word -/

theorem extractLsb'_eq_ofNat {n : Nat} (w : BitVec n) (start len : Nat) :
    w.extractLsb' start len = BitVec.ofNat len (w.toNat / 2 ^ start % 2 ^ len) := by
  apply BitVec.eq_of_toNat_eq
  rw [BitVec.extractLsb'_toNat, BitVec.toNat_ofNat, Nat.mod_mod, Nat.shiftRight_eq_div_pow]

theorem chField_eq_ofNat (w : Word) : chField w = BitVec.ofNat 12 (w.toNat / 2 ^ 16 % 2 ^ 12) :=
  extractLsb'_eq_ofNat w 16 12

theorem valField_eq_ofNat (w : Word) : valField w = BitVec.ofNat 16 (w.toNat % 2 ^ 16) := by
  rw [valField, extractLsb'_eq_ofNat, pow_zero, Nat.div_one]

theorem onField_eq_ofNat (w : Word) : onField w = BitVec.ofNat 12 (w.toNat / 2 ^ 12 % 2 ^ 12) :=
  extractLsb'_eq_ofNat w 12 12

theorem offField_eq_ofNat (w : Word) : offField w = BitVec.ofNat 12 (w.toNat % 2 ^ 12) := by
  rw [offField, extractLsb'_eq_ofNat, pow_zero, Nat.div_one]

/-- Settles O4: each test and each operand of the decoder is one of the fields above. -/
theorem decodeReadsFields : Obligations.DecodeReadsFields := by
  intro w
  simp only [decodeCommand, opcodeField_eq_iff, ne_eq, reservedN_eq_zero_iff, reservedF_eq_zero_iff, BitVec.reduceToNat,
    chField_eq_ofNat, valField_eq_ofNat, onField_eq_ofNat, offField_eq_ofNat]

/-- Settles O1: seven closed words. -/
theorem sampleWordsDecode : Obligations.SampleWordsDecode := by
  unfold Obligations.SampleWordsDecode
  decide

/-! ### The words as numbers -/

theorem toNat_encode_setb (ch : BitVec 12) (val : BitVec 16) :
    (encode (.setb ch val)).toNat = 2 * 2 ^ 28 + ch.toNat * 2 ^ 16 + val.toNat := by
  change (0x2#4 ++ ch ++ val : BitVec 32).toNat = _
  rw [Machine.toNat_append_eq_mul_add, Machine.toNat_append_eq_mul_add, BitVec.toNat_ofNat]
  omega

theorem toNat_encode_setf (on off : BitVec 12) :
    (encode (.setf on off)).toNat = 3 * 2 ^ 28 + on.toNat * 2 ^ 12 + off.toNat := by
  change (0x3#4 ++ 0#4 ++ on ++ off : BitVec 32).toNat = _
  rw [Machine.toNat_append_eq_mul_add, Machine.toNat_append_eq_mul_add, Machine.toNat_append_eq_mul_add,
    BitVec.toNat_ofNat, BitVec.toNat_ofNat]
  omega

/-! ### Encoding and decoding are inverse -/

/-- The opcode and the operands stand in different digits of the word's number. -/
theorem decodeCommand_encode_setb (ch : BitVec 12) (val : BitVec 16) :
    decodeCommand (encode (.setb ch val)) = .ok (.setb ch val) := by
  have hch : (2 * 2 ^ 28 + ch.toNat * 2 ^ 16 + val.toNat) / 2 ^ 16 % 2 ^ 12 = ch.toNat := by omega
  have hval : (2 * 2 ^ 28 + ch.toNat * 2 ^ 16 + val.toNat) % 2 ^ 16 = val.toNat := by omega
  rw [decodeReadsFields, toNat_encode_setb, if_neg (by omega), if_pos (by omega), hch, hval, BitVec.ofNat_toNat,
    BitVec.setWidth_eq, BitVec.ofNat_toNat, BitVec.setWidth_eq]

theorem decodeCommand_encode_setf (on off : BitVec 12) :
    decodeCommand (encode (.setf on off)) = .ok (.setf on off) := by
  have hon : (3 * 2 ^ 28 + on.toNat * 2 ^ 12 + off.toNat) / 2 ^ 12 % 2 ^ 12 = on.toNat := by omega
  have hoff : (3 * 2 ^ 28 + on.toNat * 2 ^ 12 + off.toNat) % 2 ^ 12 = off.toNat := by omega
  rw [decodeReadsFields, toNat_encode_setf, if_neg (by omega), if_neg (by omega), if_pos (by omega), if_neg (by omega),
    hon, hoff, BitVec.ofNat_toNat, BitVec.setWidth_eq, BitVec.ofNat_toNat, BitVec.setWidth_eq]

/-- Settles O2: the words without operands are three closed words, and the two others give their digits back. -/
theorem decodeInvertsEncode : Obligations.DecodeInvertsEncode := by
  intro i
  cases i with
  | init => exact ⟨fun _ => rfl, nofun⟩
  | setb ch val => exact ⟨fun _ => decodeCommand_encode_setb ch val, nofun⟩
  | setf on off => exact ⟨fun _ => decodeCommand_encode_setf on off, nofun⟩
  | req => exact ⟨fun _ => rfl, nofun⟩
  | tick => exact ⟨nofun, fun _ => rfl⟩

/-- Opcode, reserved bits and operands are all of the word's digits. -/
theorem encode_of_decodeCommand_ok {w : Word} {i : Instr} (hd : decodeCommand w = .ok i) : encode i = w := by
  apply BitVec.eq_of_toNat_eq
  rcases decodeCommand_cases w with ⟨hop, hbits, h⟩ | ⟨hop, h⟩ | ⟨hop, hbits, h⟩ | ⟨hop, hbits, h⟩ | ⟨-, h⟩ | ⟨-, h⟩ <;>
    cases h.symm.trans hd
  · change 1 * 2 ^ 28 = w.toNat
    omega
  · rw [toNat_encode_setb, chField_eq_ofNat, valField_eq_ofNat, BitVec.toNat_ofNat, BitVec.toNat_ofNat]
    omega
  · rw [toNat_encode_setf, onField_eq_ofNat, offField_eq_ofNat, BitVec.toNat_ofNat, BitVec.toNat_ofNat]
    omega
  · change 4 * 2 ^ 28 = w.toNat
    omega

theorem port_eq_command_of_ne_tick {i : Instr} (h : i ≠ .tick) : i.port = .command := by
  cases i with
  | tick => exact absurd rfl h
  | _ => rfl

theorem decodeTick_eq_some_iff (w : Word) (i : Instr) : decodeTick w = some i ↔ w = tickWord ∧ i = .tick := by
  by_cases hw : w = tickWord <;> simp [decodeTick, hw, eq_comm]

/-- Settles O3: the word is its digits, and each port's decoder answers only operations that the port carries. -/
theorem encodeInvertsDecode : Obligations.EncodeInvertsDecode := by
  refine fun w => ⟨fun i hd => ⟨encode_of_decodeCommand_ok hd, ?_⟩, fun i hd => ?_⟩
  · exact decide_eq_true (port_eq_command_of_ne_tick (ne_tick_of_decodeCommand_ok hd))
  · obtain ⟨rfl, rfl⟩ := (decodeTick_eq_some_iff w i).1 hd
    exact ⟨rfl, rfl⟩

end Sys2Proof

namespace Sys2Proof.Machine

/-! ### The assembler's operands -/

theorem toNat_ofInt_of_wellFormedUnsigned {x : Int} (h : wellFormedUnsigned x = true) :
    ((BitVec.ofInt 12 x).toNat : Int) = x := by
  simp only [wellFormedUnsigned, Bool.and_eq_true, decide_eq_true_eq] at h
  rw [BitVec.toNat_ofInt]
  omega

theorem toInt_ofInt_of_wellFormedValue {x : Int} (h : wellFormedValue x = true) : (BitVec.ofInt 16 x).toInt = x := by
  simp only [wellFormedValue, Bool.and_eq_true, decide_eq_true_eq] at h
  exact BitVec.toInt_ofInt_eq_self (by decide) (by omega) (by omega)

/-- A SETB line has a word exactly when both checks of R121 pass. -/
theorem word?_setb (ch val : Int) :
    (SourceOp.setb ch val).word? =
      if wellFormedUnsigned ch && wellFormedValue val then
        some (encode (.setb (BitVec.ofInt 12 ch) (BitVec.ofInt 16 val)))
      else none := by
  rw [SourceOp.word?, SourceOp.instr?]
  split_ifs <;> rfl

theorem word?_setf (on off : Int) :
    (SourceOp.setf on off).word? =
      if wellFormedUnsigned on && wellFormedUnsigned off then
        some (encode (.setf (BitVec.ofInt 12 on) (BitVec.ofInt 12 off)))
      else none := by
  rw [SourceOp.word?, SourceOp.instr?]
  split_ifs <;> rfl

/-- Settles O5: the checks are the ranges, and in range the fields hold the operands. -/
theorem assemblerKeepsOperands : Obligations.AssemblerKeepsOperands := by
  refine ⟨fun ch val => ?_, fun on off => ?_⟩
  · have hrange : (0 ≤ ch ∧ ch ≤ 4095 ∧ -32768 ≤ val ∧ val ≤ 32767) ↔
        (wellFormedUnsigned ch && wellFormedValue val) = true := by
      simp [wellFormedUnsigned, wellFormedValue, and_assoc]
    rw [word?_setb, hrange]
    refine ⟨fun h => ?_, fun h => if_neg h⟩
    obtain ⟨hch, hval⟩ := Bool.and_eq_true_iff.1 h
    exact ⟨_, _, if_pos h, toNat_ofInt_of_wellFormedUnsigned hch, toInt_ofInt_of_wellFormedValue hval⟩
  · have hrange : (0 ≤ on ∧ on ≤ 4095 ∧ 0 ≤ off ∧ off ≤ 4095) ↔
        (wellFormedUnsigned on && wellFormedUnsigned off) = true := by
      simp [wellFormedUnsigned, and_assoc]
    rw [word?_setf, hrange]
    refine ⟨fun h => ?_, fun h => if_neg h⟩
    obtain ⟨hon, hoff⟩ := Bool.and_eq_true_iff.1 h
    exact ⟨_, _, if_pos h, toNat_ofInt_of_wellFormedUnsigned hon, toNat_ofInt_of_wellFormedUnsigned hoff⟩

end Sys2Proof.Machine
end

section
/-! One step by the kind of thing it does (20_memory.md R80): `Effect` puts what `step_cases` and `exec_cases` say into
one list, with the delivery that brings each kind about. Then the turns of the two ports (60_exceptions.md R310), and
that nothing stops the block (R300). -/

namespace Sys2Proof.Machine

/-! ### What a delivery can do -/

/-- What the delivery `e`, once taken, makes of `s`: the timing source's turn passes; a command word records a fault; or
an operation runs. The opcodes are those of the command word (30_encoding.md R105–R109). -/
inductive Effect (s : State) : PortEvent → State → Prop
  | passed (ha : s.armed = false) : Effect s (.tick tickWord) s
  | recorded {w : Word} (c : FaultCode) {answers : Bool} (hanswers : answers = true → w.toNat / 2 ^ 28 = 4) :
      Effect s (.command w) (s.raiseFault c answers)
  | initAccepted {w : Word} (hop : w.toNat / 2 ^ 28 = 1) (ha : s.armed = false) :
      Effect s (.command w) (arm (seedGrayscale (writeDotCorrection s)))
  | targeted {w : Word} (hop : w.toNat / 2 ^ 28 = 2) (ha : s.armed = true) (hf : s.cfg.fadeEnabled = true)
      (ch : BitVec 12) (v : Level) : Effect s (.command w) (setTarget s (channelOperand s.cfg ch) v)
  | packed {w : Word} (hop : w.toNat / 2 ^ 28 = 2) (ha : s.armed = true) (hf : s.cfg.fadeEnabled = false) (x : Nat)
      (v : Level) : Effect s (.command w) (packChannel s x v)
  | rated {w : Word} (hop : w.toNat / 2 ^ 28 = 3) (ha : s.armed = true) (on off : Level) :
      Effect s (.command w) (setRates s on off)
  | requested (ha : s.armed = true) :
      Effect s (.command 0x40000000#32) ((coordinatorUpdate s).1.respond (coordinatorUpdate s).2)
  | ticked (ha : s.armed = true) : Effect s (.tick tickWord) (outputHandler s)

/-- A command word that decodes has the effect of its operation. -/
theorem effect_of_exec {w : Word} {i : Instr} {s t : State} (hd : decodeCommand w = .ok i) (h : exec i s = .next t) :
    Effect s (.command w) t := by
  have hop := opcode_of_decodeCommand_ok hd
  rcases exec_cases h with ⟨rfl, -, rfl⟩ | ⟨rfl, ha, rfl⟩ | ⟨⟨_, _, rfl⟩, -, rfl⟩ | ⟨ch, val, rfl, ha, hf, rfl⟩ |
    ⟨ch, val, rfl, ha, hf, rfl⟩ | ⟨⟨_, _, rfl⟩, -, rfl⟩ | ⟨on, off, rfl, ha, rfl⟩ | ⟨rfl, -, rfl⟩ | ⟨rfl, ha, rfl⟩ |
    ⟨rfl, -, rfl⟩
  · exact .recorded _ nofun
  · exact .initAccepted hop ha
  · exact .recorded _ nofun
  · exact .targeted hop ha hf ch _
  · exact .packed hop ha hf _ _
  · exact .recorded _ nofun
  · exact .rated hop ha on off
  · exact .recorded _ fun _ => hop
  · rw [(decodeCommand_eq_req_iff w).1 hd]
    exact .requested ha
  · exact absurd rfl (ne_tick_of_decodeCommand_ok hd)

/-- A step has nothing delivered and changes nothing, or takes a delivery and has one of its effects. -/
theorem step_effect {s t : State} (h : step s = .next t) :
    (s.inputs = [] ∧ t = s) ∨ ∃ e rest, s.inputs = e :: rest ∧ Effect (s.take rest) e t := by
  rcases step_cases h with hnone | ⟨w, rest, c, hi, -, rfl⟩ | ⟨w, rest, i, hi, hd, hexec⟩ | ⟨rest, hi, ha, rfl⟩ |
    ⟨rest, hi, ha, hexec⟩
  · exact .inl hnone
  · exact .inr ⟨_, rest, hi, .recorded c fun hans => by simpa [wordAnswers_eq] using hans⟩
  · exact .inr ⟨_, rest, hi, effect_of_exec hd hexec⟩
  · exact .inr ⟨_, rest, hi, .passed ha⟩
  · rw [exec_tick_of_armed (s := s.take rest) ha] at hexec
    injection hexec with ht
    exact .inr ⟨_, rest, hi, ht ▸ .ticked ha⟩

/-- The effect of the delivery that a step takes. -/
theorem effect_of_step {s t : State} {e : PortEvent} {rest : List PortEvent} (hi : s.inputs = e :: rest)
    (h : step s = .next t) : Effect (s.take rest) e t := by
  obtain ⟨hnone, -⟩ | ⟨e', rest', hi', heff⟩ := step_effect h
  · simp [hi] at hnone
  · rw [hi] at hi'
    injection hi' with he hrest
    rwa [he, hrest]

/-- Every step keeps what taking a delivery and every effect keep. -/
theorem step_keeps {P : State → Prop} (htake : ∀ s rest, P s → P (s.take rest))
    (heffect : ∀ s e t, P s → Effect s e t → P t) {s t : State} (hs : P s) (h : step s = .next t) : P t := by
  obtain ⟨-, rfl⟩ | ⟨e, rest, -, heff⟩ := step_effect h
  · exact hs
  · exact heffect _ e t (htake s rest hs) heff

/-! ### The turns of the two ports -/

theorem step_tick_of_armed {s : State} {rest : List PortEvent} (hi : s.inputs = .tick tickWord :: rest)
    (ha : s.armed = true) : step s = .next (outputHandler (s.take rest)) := by
  simp [step, hi, tickTurn, (decodeTick_eq_some_iff _ _).2, ha, exec_tick_of_armed]

theorem step_tick_of_not_armed {s : State} {rest : List PortEvent} (hi : s.inputs = .tick tickWord :: rest)
    (ha : s.armed = false) : step s = .next (s.take rest) := by
  simp [step, hi, tickTurn, (decodeTick_eq_some_iff _ _).2, ha]

/-- Another word cannot stand on the tick port (93_implementation_defined.md part 3). -/
theorem step_of_foreign_tick {s : State} {w : Word} {rest : List PortEvent} (hi : s.inputs = .tick w :: rest)
    (hw : w ≠ tickWord) : step s = .refused .foreignTickWord := by
  have hforeign : decodeTick w = none := if_neg hw
  simp [step, hi, tickTurn, hforeign]

theorem step_of_no_inputs {s : State} (hi : s.inputs = []) : step s = .next s := by simp [step, hi]

/-- Settles O6: that is the arm of `commandTurn` for a word that decodes. -/
theorem stepRunsCommand : Obligations.StepRunsCommand :=
  fun _ _ _ _ hi hd => step_of_decodeCommand_ok hi hd

/-- Settles O7: a clause for each arm of `tickTurn`, and the one for no delivery. -/
theorem stepRunsTick : Obligations.StepRunsTick := by
  refine ⟨fun s rest hi ha => ?_, fun _ _ => step_tick_of_not_armed, fun _ _ _ => step_of_foreign_tick,
    fun _ => step_of_no_inputs⟩
  rw [step_tick_of_armed hi ha]
  exact (exec_tick_of_armed (s := s.take rest) ha).symm

/-- Settles O8: a command word always has a next state, faults included, and TICK's word has one in both cases of
ARMED. -/
theorem blockNeverHalts : Obligations.BlockNeverHalts := by
  intro s htick
  cases hi : s.inputs with
  | nil => exact ⟨s, step_of_no_inputs hi⟩
  | cons e rest =>
    cases e with
    | command w =>
      obtain ⟨c, -, hstep⟩ | ⟨-, t, hstep, -⟩ := step_command_cases hi
      · exact ⟨_, hstep⟩
      · exact ⟨t, hstep⟩
    | tick w =>
      obtain rfl : w = tickWord := htick w rest hi
      cases ha : s.armed with
      | false => exact ⟨_, step_tick_of_not_armed hi ha⟩
      | true => exact ⟨_, step_tick_of_armed hi ha⟩

end Sys2Proof.Machine
end

section
/-! What an accepted INIT writes (45_init.md R270), and a TICK in each variant (43_output_handler.md R210); and the form that every step keeps: canonical buffers,
T fade registers of each kind, no excluded fault code (20_memory.md R70, 10_state.md R42, R47), and in the fade variant
the write buffer equal to ACTUAL (R50). -/

namespace Sys2Proof.Machine

/-! ### An accepted INIT -/

/-- The three phases of INIT together (45_init.md R270–R278). -/
theorem acceptedInit_eq (s : State) :
    arm (seedGrayscale (writeDotCorrection s)) =
      { s with
        out := s.out ++ ([.blank true, .mode true] ++ (dcStream s.cfg).map .bit ++ [.latch, .mode false] ++
          List.replicate (192 * s.cfg.deviceCount) (.bit false) ++ [.latch, .extraClock])
        blankPin := true
        vprgPin := false
        armed := true } := by
  simp [arm, seedGrayscale, writeDotCorrection, State.driveBlank, State.driveMode, State.shiftBits, State.emit,
    Config.frameBits]

/-- Settles O44: before the block is armed, INIT is its three phases. -/
theorem initEffect : Obligations.InitEffect := by
  intro s ha
  rw [exec_init_of_not_armed ha, acceptedInit_eq]

/-! ### REQ -/

/-- A CoordinatorUpdate writes TB and PENDING at most (42_coordinator.md R190). -/
theorem coordinatorUpdate_eq (s : State) :
    (coordinatorUpdate s).1 =
      { s with tb := (coordinatorUpdate s).1.tb, pending := (coordinatorUpdate s).1.pending } := by
  obtain ⟨-, h⟩ | ⟨-, h⟩ := coordinatorUpdate_cases s
  · rw [h]
  · rw [h, queueFrame]

/-! ### A TICK, field by field -/

@[simp] theorem outputHandler_cfg (s : State) : (outputHandler s).cfg = s.cfg := by rw [outputHandler_eq rfl]
@[simp] theorem outputHandler_target (s : State) : (outputHandler s).target = s.target := by rw [outputHandler_eq rfl]
@[simp] theorem outputHandler_fadeOn (s : State) : (outputHandler s).fadeOn = s.fadeOn := by rw [outputHandler_eq rfl]
@[simp] theorem outputHandler_fadeOff (s : State) : (outputHandler s).fadeOff = s.fadeOff := by rw [outputHandler_eq rfl]
@[simp] theorem outputHandler_armed (s : State) : (outputHandler s).armed = s.armed := by rw [outputHandler_eq rfl]
@[simp] theorem outputHandler_inputs (s : State) : (outputHandler s).inputs = s.inputs := by rw [outputHandler_eq rfl]
@[simp] theorem outputHandler_pending (s : State) : (outputHandler s).pending = false := by rw [outputHandler_eq rfl]

/-- The handler in the direct variant: step 4 does nothing (43_output_handler.md R214). -/
theorem outputHandler_of_direct {s : State} (hf : s.cfg.fadeEnabled = false) :
    outputHandler s =
      { s with
        out := s.out ++ [.blank true] ++ (if s.awaitLatch then [.latch] else []) ++ [.blank false] ++
          (if s.pending then (gsStream s.cfg.bufferBytes s.tb).map .bit else [])
        blankPin := false
        pending := false
        awaitLatch := s.pending } := by
  have hskip : fadeIfEnabled (blankLatchUnblank s) = blankLatchUnblank s := by
    rw [fadeIfEnabled, blankLatchUnblank_eq, if_neg (by simp [hf])]
  rw [outputHandler_eq hskip, blankLatchUnblank_eq]

/-- The handler in the fade variant, by the fade step of the state that the TICK begins in. -/
theorem outputHandler_of_fadeEnabled {s : State} (hs : s.wf = true) (ha : s.armed = true)
    (hf : s.cfg.fadeEnabled = true) :
    outputHandler s =
      { s with
        out := s.out ++ [.blank true] ++ (if s.awaitLatch then [.latch] else []) ++ [.blank false] ++
          (if (fadeStep s).pending then (gsStream s.cfg.bufferBytes (fadeStep s).tb).map .bit else [])
        blankPin := false
        awaitLatch := (fadeStep s).pending
        pending := false
        actual := (fadeStep s).actual
        wb := (fadeStep s).wb
        tb := (fadeStep s).tb } := by
  have hexec := exec_tick_of_fadeEnabled hs ha hf
  rw [exec_tick_of_armed ha] at hexec
  injection hexec

/-- Settles O37: a TICK of an armed block is the handler. -/
theorem tickDirectEffect : Obligations.TickDirectEffect := by
  intro s ha hf
  rw [exec_tick_of_armed ha, outputHandler_of_direct hf]

/-- Settles O39: the handler's equation names the fields it writes, in the direct variant without the three. -/
theorem tickFrame : Obligations.TickFrame := by
  refine fun s ha => ⟨outputHandler s, exec_tick_of_armed ha, ?_, fun hf => ?_⟩
  · rw [outputHandler_eq rfl]
  · rw [outputHandler_of_direct hf]
    exact ⟨rfl, rfl, rfl⟩

/-! ### The form of the state -/

theorem toNat_recordedCause_le {cause : BitVec 4} (h : cause.toNat ≤ 4) (c : FaultCode) :
    (recordedCause cause c).toNat ≤ 4 := by
  obtain ⟨-, hc⟩ | ⟨-, hc⟩ := recordedCause_cases cause c
  · rw [hc]
    cases c <;> decide
  · rwa [hc]

theorem raiseFault_wf {s : State} (hs : s.wf = true) (c : FaultCode) (answers : Bool) :
    (s.raiseFault c answers).wf = true := by
  obtain ⟨hwb, htb, htarget, hactual, hcause⟩ := s.wf_iff.1 hs
  exact (State.wf_iff _).2 ⟨hwb, htb, htarget, hactual, toNat_recordedCause_le hcause c⟩

theorem setTarget_wf {s : State} (hs : s.wf = true) (l : Nat) (v : Level) : (setTarget s l v).wf = true := by
  obtain ⟨hwb, htb, htarget, hactual, hcause⟩ := s.wf_iff.1 hs
  exact (State.wf_iff _).2 ⟨hwb, htb, by simpa using htarget, hactual, hcause⟩

theorem packChannel_wf {s : State} (hs : s.wf = true) (x : Nat) (v : Level) : (packChannel s x v).wf = true := by
  obtain ⟨hwb, htb, htarget, hactual, hcause⟩ := s.wf_iff.1 hs
  exact (State.wf_iff _).2 ⟨pack_wf hwb (mapChannel_lt _ x) v, htb, htarget, hactual, hcause⟩

theorem coordinatorUpdate_wf {s : State} (hs : s.wf = true) : (coordinatorUpdate s).1.wf = true := by
  obtain ⟨-, h⟩ | ⟨-, h⟩ := coordinatorUpdate_cases s
  · rwa [h]
  · obtain ⟨hwb, -, htarget, hactual, hcause⟩ := s.wf_iff.1 hs
    rw [h]
    exact (State.wf_iff _).2 ⟨hwb, hwb, htarget, hactual, hcause⟩

/-- The fade step keeps the form: the loop does, and a queued frame is the loop's write buffer. -/
theorem outputHandler_wf {s : State} (hs : s.wf = true) (ha : s.armed = true) : (outputHandler s).wf = true := by
  cases hf : s.cfg.fadeEnabled with
  | false =>
    rw [outputHandler_of_direct hf]
    exact hs
  | true =>
    have hloop := fadeAll_fadedFrom hs
    obtain ⟨-, htb, htarget, -, hcause⟩ := s.wf_iff.1 hs
    have hqueued : (fadeStep s).tb.wf s.cfg.bufferBytes = true := by
      rw [fadeStep_tb]
      split_ifs
      · exact hloop.wb_wf
      · exact htb
    rw [outputHandler_of_fadeEnabled hs ha hf, State.wf_iff, fadeStep_wb, fadeStep_actual]
    exact ⟨hloop.wb_wf, hqueued, htarget, hloop.actual_length, hcause⟩

theorem Effect.wf {s t : State} {e : PortEvent} (h : Effect s e t) (hs : s.wf = true) : t.wf = true := by
  cases h with
  | passed => exact hs
  | recorded c => exact raiseFault_wf hs c _
  | initAccepted => rwa [acceptedInit_eq]
  | targeted _ _ _ ch v => exact setTarget_wf hs _ v
  | packed _ _ _ x v => exact packChannel_wf hs x v
  | rated => exact hs
  | requested => exact coordinatorUpdate_wf hs
  | ticked ha => exact outputHandler_wf hs ha

/-- Settles O49: the deliveries are no part of the form, and every effect keeps it. -/
theorem stepKeepsForm : Obligations.StepKeepsForm :=
  fun _ _ hs hstep => step_keeps (P := fun s => s.wf = true) (fun _ _ h => h) (fun _ _ _ hs h => h.wf hs) hs hstep

/-! ### The write buffer and ACTUAL -/

/-- The loop writes a channel's new level to both places or to neither (44_fade.md R247). -/
theorem outputHandler_mirrorsActual {s : State} (hs : s.wf = true) (ha : s.armed = true) (h : s.mirrorsActual) :
    (outputHandler s).mirrorsActual := by
  intro hf l hl
  rw [outputHandler_cfg] at hf hl ⊢
  rw [outputHandler_of_fadeEnabled hs ha hf, fadeStep_wb, fadeStep_actual, (fadeAll_fadedFrom hs).channel l hl]
  split_ifs with hsame
  · rw [h hf l hl, hsame]
  · rfl

theorem Effect.mirrorsActual {s t : State} {e : PortEvent} (h : Effect s e t) (hs : s.wf = true)
    (hm : s.mirrorsActual) : t.mirrorsActual := by
  cases h with
  | passed => exact hm
  | recorded => exact hm
  | initAccepted => rwa [acceptedInit_eq]
  | targeted => exact hm
  | packed _ _ hf => exact fun hfade => absurd (hf.symm.trans hfade) Bool.false_ne_true
  | rated => exact hm
  | requested => rwa [coordinatorUpdate_eq]
  | ticked ha => exact outputHandler_mirrorsActual hs ha hm

/-- Settles O50: in the fade variant only the fade loop writes the write buffer, and SETB does not (41_packer.md R167). -/
theorem stepKeepsMirror : Obligations.StepKeepsMirror := by
  intro s t hs hm hstep
  refine (step_keeps (P := fun s => s.wf = true ∧ s.mirrorsActual) (fun _ _ h => h) ?_ ⟨hs, hm⟩ hstep).2
  rintro u e v ⟨hu, hmu⟩ heff
  exact ⟨heff.wf hu, heff.mirrorsActual hu hmu⟩

end Sys2Proof.Machine
end

section
/-! The traces and the level pins: what a step adds to them (10_state.md R35, R36, R46), and that every frame latched
after INIT is a whole one (43_output_handler.md R217). -/

namespace Sys2Proof.Machine

/-! ### What never goes back -/

/-- An effect keeps the parameters, adds to the traces, and leaves the block armed where it is armed. -/
theorem Effect.grows {s t : State} {e : PortEvent} (h : Effect s e t) :
    t.cfg = s.cfg ∧ s.out <+: t.out ∧ s.resp <+: t.resp ∧ (s.armed = true → t.armed = true) := by
  cases h with
  | passed => simp
  | @recorded _ _ answers => cases answers <;> simp
  | initAccepted => simp [acceptedInit_eq]
  | targeted => simp
  | packed => simp
  | rated => simp
  | requested => obtain ⟨-, h⟩ | ⟨-, h⟩ := coordinatorUpdate_cases s <;> simp [h]
  | ticked => simp [outputHandler_eq]

/-- Settles O56: taking a delivery touches none of the four. -/
theorem tracesOnlyGrow : Obligations.TracesOnlyGrow := by
  intro s t hstep
  obtain ⟨-, rfl⟩ | ⟨e, rest, -, heff⟩ := step_effect hstep
  · simp
  · exact heff.grows

/-! ### The level pins -/

/-- Bits move no pin, so a trace's pin levels stay where they are. -/
theorem blankLevel_append_bits (es : List OutEvent) (bs : List Bool) :
    blankLevel (es ++ bs.map .bit) = blankLevel es := by
  simp [blankLevel, List.foldl_map]

theorem modeLevel_append_bits (es : List OutEvent) (bs : List Bool) :
    modeLevel (es ++ bs.map .bit) = modeLevel es := by
  simp [modeLevel, List.foldl_map]

theorem driveBlank_pinsFollowOut {s : State} (h : s.pinsFollowOut) (v : Bool) : (s.driveBlank v).pinsFollowOut := by
  obtain ⟨-, hmode⟩ := h
  simpa [State.pinsFollowOut, blankLevel, modeLevel] using hmode

theorem driveMode_pinsFollowOut {s : State} (h : s.pinsFollowOut) (v : Bool) : (s.driveMode v).pinsFollowOut := by
  obtain ⟨hblank, -⟩ := h
  simpa [State.pinsFollowOut, blankLevel, modeLevel] using hblank

theorem emit_latch_pinsFollowOut {s : State} (h : s.pinsFollowOut) : (s.emit [.latch]).pinsFollowOut := by
  simpa [State.pinsFollowOut, blankLevel, modeLevel] using h

theorem emit_latch_extraClock_pinsFollowOut {s : State} (h : s.pinsFollowOut) :
    (s.emit [.latch, .extraClock]).pinsFollowOut := by
  simpa [State.pinsFollowOut, blankLevel, modeLevel] using h

theorem shiftBits_pinsFollowOut {s : State} (h : s.pinsFollowOut) (bs : List Bool) :
    (s.shiftBits bs).pinsFollowOut := by
  simpa only [State.pinsFollowOut, State.shiftBits_out, State.shiftBits_blankPin, State.shiftBits_vprgPin,
    blankLevel_append_bits, modeLevel_append_bits] using h

theorem writeDotCorrection_pinsFollowOut {s : State} (h : s.pinsFollowOut) :
    (writeDotCorrection s).pinsFollowOut :=
  driveMode_pinsFollowOut (emit_latch_pinsFollowOut (shiftBits_pinsFollowOut
    (driveMode_pinsFollowOut (driveBlank_pinsFollowOut h _) _) _)) _

theorem seedGrayscale_pinsFollowOut {s : State} (h : s.pinsFollowOut) : (seedGrayscale s).pinsFollowOut :=
  emit_latch_extraClock_pinsFollowOut (shiftBits_pinsFollowOut h _)

theorem blankLatchUnblank_pinsFollowOut {s : State} (h : s.pinsFollowOut) : (blankLatchUnblank s).pinsFollowOut := by
  refine driveBlank_pinsFollowOut ?_ _
  unfold latchStep
  split_ifs
  · exact emit_latch_pinsFollowOut (driveBlank_pinsFollowOut h _)
  · exact driveBlank_pinsFollowOut h _

theorem shiftStep_pinsFollowOut {s : State} (h : s.pinsFollowOut) : (shiftStep s).pinsFollowOut := by
  unfold shiftStep
  split_ifs
  · exact shiftBits_pinsFollowOut h _
  · exact h

/-- Step 4 drives no pin and emits nothing. -/
theorem outputHandler_pinsFollowOut {s : State} (h : s.pinsFollowOut) : (outputHandler s).pinsFollowOut := by
  refine shiftStep_pinsFollowOut ?_
  rw [fadeIfEnabled_eq]
  exact blankLatchUnblank_pinsFollowOut h

theorem Effect.pinsFollowOut {s t : State} {e : PortEvent} (h : Effect s e t) (hs : s.pinsFollowOut) :
    t.pinsFollowOut := by
  cases h with
  | passed => exact hs
  | recorded => exact hs
  | initAccepted => exact seedGrayscale_pinsFollowOut (writeDotCorrection_pinsFollowOut hs)
  | targeted => exact hs
  | packed => exact hs
  | rated => exact hs
  | requested => rwa [coordinatorUpdate_eq]
  | ticked => exact outputHandler_pinsFollowOut hs

/-- Settles O53: a pin moves only with its event. -/
theorem stepKeepsPins : Obligations.StepKeepsPins :=
  fun _ _ hs hstep => step_keeps (P := State.pinsFollowOut) (fun _ _ h => h) (fun _ _ _ hs h => h.pinsFollowOut hs)
    hs hstep

/-! ### Before INIT -/

/-- Only an accepted INIT ends the time before INIT, and before it a word is recorded at most. -/
theorem Effect.quietBeforeInit {s t : State} {e : PortEvent} (h : Effect s e t) (hs : s.quietBeforeInit) :
    t.quietBeforeInit := by
  intro hunarmed
  obtain ⟨-, -, -, harmed⟩ := h.grows
  cases h with
  | passed => exact hs hunarmed
  | @recorded _ c answers => exact congrArg (State.raiseFault · c answers) (hs hunarmed)
  | initAccepted => cases hunarmed
  | targeted _ ha => cases (harmed ha).symm.trans hunarmed
  | packed _ ha => cases (harmed ha).symm.trans hunarmed
  | rated _ ha => cases (harmed ha).symm.trans hunarmed
  | requested ha => cases (harmed ha).symm.trans hunarmed
  | ticked ha => cases (harmed ha).symm.trans hunarmed

/-- Settles O52: a delivery taken is the third field that may differ from reset's. -/
theorem stepKeepsQuietBeforeInit : Obligations.StepKeepsQuietBeforeInit :=
  fun _ _ hs hstep => step_keeps (P := State.quietBeforeInit)
    (fun _ rest h hunarmed => congrArg (·.take rest) (h hunarmed)) (fun _ _ _ hs h => h.quietBeforeInit hs) hs hstep

/-! ### Whole frames -/

theorem scanFrames_append (n k : Nat) (xs ys : List OutEvent) :
    scanFrames n k (xs ++ ys) = (scanFrames n k xs).bind fun j => scanFrames n j ys := by
  induction xs generalizing k with
  | nil => rfl
  | cons e xs ih =>
    cases e with
    | latch =>
      rw [List.cons_append, scanFrames, scanFrames, ih]
      split_ifs <;> rfl
    | _ => exact ih _

theorem scanFrames_bits (n k : Nat) (bs : List Bool) : scanFrames n k (bs.map .bit) = some (k + bs.length) := by
  induction bs generalizing k with
  | nil => rfl
  | cons b bs ih =>
    rw [List.map_cons, scanFrames, ih, List.length_cons, Nat.add_right_comm, Nat.add_assoc]

/-- A TICK latches the frame that awaits it, and shifts a whole one or none (43_output_handler.md R212, R215). -/
theorem scanFrames_tick {n : Nat} {bits : List Bool} (hbits : bits.length = n) (await shift : Bool) :
    scanFrames n (if await then n else 0)
        ([.blank true] ++ (if await then [.latch] else []) ++ [.blank false] ++ if shift then bits.map .bit else []) =
      some (if shift then n else 0) := by
  cases await <;> cases shift <;> simp [scanFrames, scanFrames_bits, hbits]

theorem outputHandler_latchesWholeFrames {s : State} (ha : s.armed = true) (h : s.latchesWholeFrames) :
    (outputHandler s).latchesWholeFrames := by
  intro _
  obtain ⟨hinit, hscan⟩ := h ha
  generalize hf : fadeIfEnabled (blankLatchUnblank s) = f
  have hbits : (gsStream s.cfg.bufferBytes f.tb).length = s.cfg.frameBits := by
    rw [gsStream_length, eight_mul_bufferBytes]
  rw [outputHandler_eq hf]
  simp only [List.append_assoc, List.length_append] at hinit ⊢
  rw [List.drop_append_of_le_length hinit, scanFrames_append, hscan, Option.bind_some]
  refine ⟨by omega, ?_⟩
  simpa only [List.append_assoc] using scanFrames_tick hbits s.awaitLatch f.pending

/-- The trace that INIT leaves on a block quiet before it is INIT's own events, with nothing after them. -/
theorem acceptedInit_latchesWholeFrames {s : State} (ha : s.armed = false) (hs : s.quietBeforeInit) :
    (arm (seedGrayscale (writeDotCorrection s))).latchesWholeFrames := by
  have hout : s.out = [] := by rw [hs ha]; rfl
  have hawait : s.awaitLatch = false := by rw [hs ha]; rfl
  obtain ⟨t, bits, hexec, -, -, hlen⟩ := initEventTotal s ha
  have ht := Host.Outcome.next.inj ((exec_init_of_not_armed ha).symm.trans hexec)
  have hcfg : t.cfg = s.cfg := by rw [← ht, acceptedInit_eq]
  have hcount : t.out.length = initEventCount t.cfg := by
    rw [hlen, hout, hcfg, List.length_nil, Nat.zero_add, initEventCount]
  have hnone : t.awaitLatch = false := by rw [← ht, acceptedInit_eq, hawait]
  rw [ht]
  intro _
  rw [← hcount, List.drop_length, hnone]
  exact ⟨le_rfl, rfl⟩

theorem Effect.latchesWholeFrames {s t : State} {e : PortEvent} (h : Effect s e t) (hquiet : s.quietBeforeInit)
    (hs : s.latchesWholeFrames) : t.latchesWholeFrames := by
  cases h with
  | passed => exact hs
  | recorded => exact hs
  | initAccepted _ ha => exact acceptedInit_latchesWholeFrames ha hquiet
  | targeted => exact hs
  | packed => exact hs
  | rated => exact hs
  | requested => rwa [coordinatorUpdate_eq]
  | ticked ha => exact outputHandler_latchesWholeFrames ha hs

/-- Settles O54: INIT finds an empty trace, and each TICK shifts a whole frame or none after the one it latches. -/
theorem stepKeepsWholeFrames : Obligations.StepKeepsWholeFrames := by
  intro s t hquiet hs hstep
  obtain ⟨-, rfl⟩ | ⟨e, rest, -, heff⟩ := step_effect hstep
  · exact hs
  · exact heff.latchesWholeFrames (fun hunarmed => congrArg (·.take rest) (hquiet hunarmed)) hs

end Sys2Proof.Machine
end

section
/-! SETB (41_packer.md R166, R167): the clamped operands, and what is read back afterwards (R164). -/

namespace Sys2Proof.Machine

/-- Settles O26: the clamped integer lies in the range of a 12-bit register. -/
theorem clampValueSaturates : Obligations.ClampValueSaturates := by
  intro x
  rw [clampValue, levelOfInt, BitVec.toNat_ofInt, clampInt]
  omega

theorem exec_setb_of_fadeEnabled {s : State} (ha : s.armed = true) (hf : s.cfg.fadeEnabled = true) (ch : BitVec 12)
    (val : BitVec 16) :
    exec (.setb ch val) s = .next (setTarget s (channelOperand s.cfg ch) (brightnessOperand val)) := by
  simp [exec, execSetb, ha, hf]

theorem exec_setb_of_direct {s : State} (ha : s.armed = true) (hf : s.cfg.fadeEnabled = false) (ch : BitVec 12)
    (val : BitVec 16) : exec (.setb ch val) s = .next (packChannel s ch.toNat (brightnessOperand val)) := by
  simp [exec, execSetb, ha, hf]

/-- Settles O27: one clause for each arm of SETB. -/
theorem setbEffect : Obligations.SetbEffect := by
  refine fun s ch val => ⟨fun ha => ?_, fun ha hf => exec_setb_of_fadeEnabled ha hf ch val,
    fun ha hf => exec_setb_of_direct ha hf ch val⟩
  exact exec_of_not_armed nofun nofun ha

theorem clampChannel_idem (c : Config) (x : Nat) : clampChannel c (clampChannel c x) = clampChannel c x :=
  clampChannel_of_lt (clampChannel_lt c x)

/-- Map clamps its channel itself, so clamping it before changes nothing (40_mapper.md R141). -/
theorem mapChannel_clampChannel (c : Config) (x : Nat) : mapChannel c (clampChannel c x) = mapChannel c x := by
  rw [mapChannel, clampChannel_idem, ← mapChannel]

/-- Settles O28: one register is set, or one channel packed, and Map sends no other channel to that position. -/
theorem setbWritesOneChannel : Obligations.SetbWritesOneChannel := by
  intro s ch val l v hs ha hclamp hv
  change l = clampChannel s.cfg ch.toNat at hclamp
  have hl : l < s.cfg.channels := hclamp ▸ clampChannel_lt s.cfg ch.toNat
  have hmap : mapChannel s.cfg l = mapChannel s.cfg ch.toNat := by rw [hclamp, mapChannel_clampChannel]
  obtain rfl : v = brightnessOperand val :=
    BitVec.eq_of_toNat_eq (Int.ofNat.inj (hv.trans (clampValueSaturates val.toInt).symm))
  obtain ⟨hwb, -, htarget, -, -⟩ := s.wf_iff.1 hs
  cases hf : s.cfg.fadeEnabled with
  | true =>
    have hset := levelAt_set (htarget ▸ hl) (brightnessOperand val)
    refine ⟨_, exec_setb_of_fadeEnabled ha hf ch val, fun _ => ⟨?_, fun m hm => ?_, rfl⟩, nofun⟩
    · rw [setTarget_target, channelOperand, ← hclamp, hset, if_pos rfl]
    · rw [setTarget_target, channelOperand, ← hclamp, hset, if_neg (Ne.symm hm)]
  | false =>
    have hpos := mapChannel_lt s.cfg ch.toNat
    refine ⟨_, exec_setb_of_direct ha hf ch val, nofun, fun _ => ⟨?_, fun m hm hne => ?_, fun k => ?_, rfl⟩⟩
    · rw [hmap, packChannel_wb, unpack_pack_same hwb hpos]
    · have hother : mapChannel s.cfg m ≠ mapChannel s.cfg ch.toNat := fun heq =>
        hne (mapChannel_inj hm hl (heq.trans hmap.symm))
      rw [packChannel_wb, unpack_pack_other hwb hpos _ hother]
    · exact read_pack_other hwb hpos (brightnessOperand val)

end Sys2Proof.Machine
end

section
/-! Who writes what: the writers of each state element (10_state.md R32), PENDING and TB (20_memory.md R82, R83), and
FAULT_CAUSE, which nothing reads (60_exceptions.md R301, R304, R306). -/

namespace Sys2Proof.Machine

/-! ### The writers of each element -/

/-- What a command word leaves alone, by its opcode. -/
theorem Effect.command_frame {s t : State} {w : Word} (h : Effect s (.command w) t) :
    t.actual = s.actual ∧ t.awaitLatch = s.awaitLatch ∧
    (w.toNat / 2 ^ 28 = 2 ∧ s.cfg.fadeEnabled = false ∨ t.wb = s.wb) ∧
    (w.toNat / 2 ^ 28 = 2 ∧ s.cfg.fadeEnabled = true ∨ t.target = s.target) ∧
    (w.toNat / 2 ^ 28 = 3 ∨ t.fadeOn = s.fadeOn ∧ t.fadeOff = s.fadeOff) ∧
    (w.toNat / 2 ^ 28 = 4 ∨ t.tb = s.tb ∧ t.pending = s.pending ∧ t.resp = s.resp) ∧
    (w.toNat / 2 ^ 28 = 1 ∨
      t.out = s.out ∧ t.armed = s.armed ∧ t.blankPin = s.blankPin ∧ t.vprgPin = s.vprgPin) := by
  cases h with
  | @recorded _ _ answers hanswers =>
    refine ⟨rfl, rfl, .inr rfl, .inr rfl, .inr ⟨rfl, rfl⟩, ?_, .inr ⟨rfl, rfl, rfl, rfl⟩⟩
    cases answers with
    | false => exact .inr ⟨rfl, rfl, rfl⟩
    | true => exact .inl (hanswers rfl)
  | initAccepted hop =>
    rw [acceptedInit_eq]
    exact ⟨rfl, rfl, .inr rfl, .inr rfl, .inr ⟨rfl, rfl⟩, .inr ⟨rfl, rfl, rfl⟩, .inl hop⟩
  | targeted hop _ hf =>
    exact ⟨rfl, rfl, .inr rfl, .inl ⟨hop, hf⟩, .inr ⟨rfl, rfl⟩, .inr ⟨rfl, rfl, rfl⟩, .inr ⟨rfl, rfl, rfl, rfl⟩⟩
  | packed hop _ hf =>
    exact ⟨rfl, rfl, .inl ⟨hop, hf⟩, .inr rfl, .inr ⟨rfl, rfl⟩, .inr ⟨rfl, rfl, rfl⟩, .inr ⟨rfl, rfl, rfl, rfl⟩⟩
  | rated hop =>
    exact ⟨rfl, rfl, .inr rfl, .inr rfl, .inl hop, .inr ⟨rfl, rfl, rfl⟩, .inr ⟨rfl, rfl, rfl, rfl⟩⟩
  | requested =>
    rw [coordinatorUpdate_eq]
    exact ⟨rfl, rfl, .inr rfl, .inr rfl, .inr ⟨rfl, rfl⟩, .inl rfl, .inr ⟨rfl, rfl, rfl, rfl⟩⟩

/-- Settles O57: the word taken is the one whose opcode is read. -/
theorem onlyItsWritersChangeIt : Obligations.OnlyItsWritersChangeIt :=
  fun _ _ _ _ hi hstep => (effect_of_step hi hstep).command_frame

/-! ### PENDING and TB -/

/-- Where a frame is pending, the fade step's request is dropped too (42_coordinator.md R194). -/
theorem outputHandler_tb_of_pending {s : State} (hp : s.pending = true) : (outputHandler s).tb = s.tb := by
  have hblank : (blankLatchUnblank s).pending = true ∧ (blankLatchUnblank s).tb = s.tb := by
    rw [blankLatchUnblank_eq]
    exact ⟨hp, rfl⟩
  rw [outputHandler_eq rfl]
  obtain ⟨-, h⟩ | ⟨-, h⟩ := fadeIfEnabled_cases (blankLatchUnblank s)
  · simp [h, hblank]
  · simp [h, hblank]

theorem Effect.tb_of_pending {s t : State} {e : PortEvent} (h : Effect s e t) (hp : s.pending = true) :
    t.tb = s.tb := by
  cases h with
  | passed => rfl
  | recorded => rfl
  | initAccepted => rw [acceptedInit_eq]
  | targeted => rfl
  | packed => rfl
  | rated => rfl
  | requested => rw [coordinatorUpdate_of_pending hp, State.respond_tb]
  | ticked => exact outputHandler_tb_of_pending hp

/-- Settles O34: of the two writers of TB, REQ and the fade step, both ask PENDING first. -/
theorem noTearing : Obligations.NoTearing := by
  intro s t hstep hp
  obtain ⟨-, rfl⟩ | ⟨e, rest, -, heff⟩ := step_effect hstep
  · rfl
  · exact heff.tb_of_pending hp

/-- A TICK clears PENDING, a request leaves it set, and everything else leaves it (20_memory.md R83). -/
theorem Effect.pending_cases {s t : State} {e : PortEvent} (h : Effect s e t) :
    (e = .tick tickWord ∧ s.armed = true ∧ t.pending = false) ∨
    (e = .command 0x40000000#32 ∧ s.armed = true ∧ t.pending = true ∧ (s.pending = false → t.tb = s.wb)) ∨
    ((e = .tick tickWord → s.armed = false) ∧ t.pending = s.pending) := by
  cases h with
  | passed ha => exact .inr (.inr ⟨fun _ => ha, rfl⟩)
  | recorded => exact .inr (.inr ⟨nofun, rfl⟩)
  | initAccepted => exact .inr (.inr ⟨nofun, by rw [acceptedInit_eq]⟩)
  | targeted => exact .inr (.inr ⟨nofun, rfl⟩)
  | packed => exact .inr (.inr ⟨nofun, rfl⟩)
  | rated => exact .inr (.inr ⟨nofun, rfl⟩)
  | requested ha =>
    obtain ⟨hp, h⟩ | ⟨hp, h⟩ := coordinatorUpdate_cases s
    · exact .inr (.inl ⟨rfl, ha, by simp [h, hp], by simp [hp]⟩)
    · exact .inr (.inl ⟨rfl, ha, by simp [h], by simp [h]⟩)
  | ticked ha => exact .inl ⟨rfl, ha, outputHandler_pending s⟩

/-- Settles O35: each clause rules out two of the three kinds of effect on PENDING. -/
theorem pendingProtocol : Obligations.PendingProtocol := by
  intro s t hstep
  obtain ⟨hnone, rfl⟩ | ⟨e, rest, hi, heff⟩ := step_effect hstep
  · simp [hnone]
  · have hcases := heff.pending_cases
    simp only [State.take_armed, State.take_pending, State.take_wb] at hcases
    rcases hcases with ⟨rfl, ha, hp⟩ | ⟨rfl, ha, hp, htb⟩ | ⟨hother, hp⟩
    · exact ⟨fun _ hset => absurd hset (by simp [hp]), fun _ _ => ⟨ha, rest, hi⟩, fun _ _ => hp⟩
    · exact ⟨fun hfree _ => ⟨ha, htb hfree, rest, hi⟩, fun _ hclear => absurd hclear (by simp [hp]),
        fun _ ⟨_, htick⟩ => by simp [hi] at htick⟩
    · refine ⟨fun hfree hset => ?_, fun hset hfree => ?_, fun ha ⟨_, htick⟩ => ?_⟩
      · simp [hp, hfree] at hset
      · simp [hp, hset] at hfree
      · obtain ⟨rfl, -⟩ := List.cons.inj (hi.symm.trans htick)
        simp [hother rfl] at ha

/-! ### FAULT_CAUSE -/

/-- Settles O15: a command word that records a fault keeps the code recorded before it, and no other delivery
records one. -/
theorem firstFaultKept : Obligations.FirstFaultKept := by
  refine fun s t hstep => ⟨fun hfirst => ?_, fun hne => step_faultCause_of_no_command hne hstep⟩
  by_cases hcommand : ∃ w rest, s.inputs = .command w :: rest
  · obtain ⟨w, rest, hi⟩ := hcommand
    obtain ⟨c, -, h⟩ | ⟨-, u, h, hu⟩ := step_command_cases hi
    · obtain rfl := Host.Outcome.next.inj (h.symm.trans hstep)
      rw [State.raiseFault_faultCause, State.take_faultCause, recordedCause, if_neg hfirst]
    · rwa [← Host.Outcome.next.inj (h.symm.trans hstep)]
  · exact step_faultCause_of_no_command (fun w rest hi => hcommand ⟨w, rest, hi⟩) hstep

/-- The state with another FAULT_CAUSE. -/
def State.withCause (s : State) (c : BitVec 4) : State := { s with faultCause := c }

theorem blankLatchUnblank_withCause (s : State) (c : BitVec 4) :
    blankLatchUnblank (s.withCause c) = (blankLatchUnblank s).withCause c := by
  rw [blankLatchUnblank_eq, blankLatchUnblank_eq]
  rfl

theorem fadeChannel_withCause (p : State × Bool) (c : BitVec 4) (l : Nat) :
    fadeChannel (p.1.withCause c, p.2) l = ((fadeChannel p l).1.withCause c, (fadeChannel p l).2) := by
  rcases fadeChannel_cases p l with ⟨hsame, h⟩ | ⟨hne, h⟩ <;>
    rcases fadeChannel_cases (p.1.withCause c, p.2) l with ⟨hsame', h'⟩ | ⟨hne', h'⟩
  · rw [h, h']
  · exact absurd hsame hne'
  · exact absurd hsame' hne
  · rw [h, h']
    rfl

theorem fadeAll_withCause (s : State) (c : BitVec 4) :
    fadeAll (s.withCause c) = ((fadeAll s).1.withCause c, (fadeAll s).2) :=
  List.foldl_hom (init := (s, false)) (fun p : State × Bool => (p.1.withCause c, p.2)) fun p l => fadeChannel_withCause p c l

theorem fadeStep_withCause (s : State) (c : BitVec 4) : fadeStep (s.withCause c) = (fadeStep s).withCause c := by
  rw [fadeStep_eq, fadeStep_eq, fadeAll_withCause]
  rfl

theorem fadeIfEnabled_withCause (s : State) (c : BitVec 4) :
    fadeIfEnabled (s.withCause c) = (fadeIfEnabled s).withCause c := by
  rw [fadeIfEnabled, fadeIfEnabled, fadeStep_withCause, apply_ite (State.withCause · c)]
  rfl

theorem outputHandler_withCause (s : State) (c : BitVec 4) :
    outputHandler (s.withCause c) = (outputHandler s).withCause c := by
  rw [outputHandler_eq rfl, outputHandler_eq rfl, blankLatchUnblank_withCause, fadeIfEnabled_withCause]
  rfl

/-- A fault recorded twice differs in FAULT_CAUSE only. -/
theorem forgetFault_raiseFault_withCause (s : State) (c : BitVec 4) (f : FaultCode) (answers : Bool) :
    forgetFault (.next ((s.withCause c).raiseFault f answers)) = forgetFault (.next (s.raiseFault f answers)) := rfl

theorem forgetFault_exec_withCause_of_not_armed {s : State} (ha : s.armed = false) (i : Instr) (c : BitVec 4) :
    forgetFault (exec i (s.withCause c)) = forgetFault (exec i s) := by
  have ha' : (s.withCause c).armed = false := ha
  by_cases hinit : i = .init
  · rw [hinit, exec_init_of_not_armed ha, exec_init_of_not_armed ha', acceptedInit_eq, acceptedInit_eq]
    rfl
  by_cases htick : i = .tick
  · simp [htick, exec, execTick, ha, ha']
  · rw [exec_of_not_armed hinit htick ha, exec_of_not_armed hinit htick ha', forgetFault_raiseFault_withCause]

theorem forgetFault_exec_withCause_of_armed {s : State} (ha : s.armed = true) (i : Instr) (c : BitVec 4) :
    forgetFault (exec i (s.withCause c)) = forgetFault (exec i s) := by
  have ha' : (s.withCause c).armed = true := ha
  cases i with
  | init => rw [exec_init_of_armed ha, exec_init_of_armed ha', forgetFault_raiseFault_withCause]
  | setb ch val =>
    cases hf : s.cfg.fadeEnabled with
    | false =>
      rw [exec_setb_of_direct ha hf, exec_setb_of_direct ha' hf]
      rfl
    | true =>
      rw [exec_setb_of_fadeEnabled ha hf, exec_setb_of_fadeEnabled ha' hf]
      rfl
  | setf on off =>
    rw [(setfEffect s on off).2 ha, (setfEffect (s.withCause c) on off).2 ha']
    rfl
  | req =>
    rw [exec_req_of_armed ha, exec_req_of_armed ha']
    cases hp : s.pending with
    | false =>
      rw [coordinatorUpdate_of_not_pending hp, coordinatorUpdate_of_not_pending (s := s.withCause c) hp]
      rfl
    | true =>
      rw [coordinatorUpdate_of_pending hp, coordinatorUpdate_of_pending (s := s.withCause c) hp]
      rfl
  | tick =>
    rw [exec_tick_of_armed ha, exec_tick_of_armed ha', outputHandler_withCause]
    rfl

/-- Every operation does the same whatever FAULT_CAUSE holds (60_exceptions.md R306). -/
theorem forgetFault_exec_withCause (i : Instr) (s : State) (c : BitVec 4) :
    forgetFault (exec i (s.withCause c)) = forgetFault (exec i s) := by
  cases ha : s.armed with
  | false => exact forgetFault_exec_withCause_of_not_armed ha i c
  | true => exact forgetFault_exec_withCause_of_armed ha i c

/-- Settles O16: which delivery is taken and what it decodes to are read without FAULT_CAUSE. -/
theorem faultCauseHasNoInfluence : Obligations.FaultCauseHasNoInfluence := by
  intro s c
  change forgetFault (step (s.withCause c)) = _
  cases hi : s.inputs with
  | nil =>
    rw [step_of_no_inputs hi, step_of_no_inputs (s := s.withCause c) hi]
    rfl
  | cons e rest =>
    cases e with
    | command w =>
      cases hd : decodeCommand w with
      | bad f =>
        rw [step_of_decodeCommand_bad hi hd, step_of_decodeCommand_bad (s := s.withCause c) hi hd]
        rfl
      | ok i =>
        rw [step_of_decodeCommand_ok hi hd, step_of_decodeCommand_ok (s := s.withCause c) hi hd]
        exact forgetFault_exec_withCause i (s.take rest) c
    | tick w =>
      by_cases hw : w = tickWord
      · rw [hw] at hi
        cases ha : s.armed with
        | false =>
          rw [step_tick_of_not_armed hi ha, step_tick_of_not_armed (s := s.withCause c) hi ha]
          rfl
        | true =>
          have htake : (s.withCause c).take rest = (s.take rest).withCause c := rfl
          rw [step_tick_of_armed hi ha, step_tick_of_armed (s := s.withCause c) hi ha, htake, outputHandler_withCause]
          rfl
      · rw [step_of_foreign_tick hi hw, step_of_foreign_tick (s := s.withCause c) hi hw]

end Sys2Proof.Machine
end

section
/-! Ticks one after another in the fade variant (44_fade.md R246, R251): every channel nears its target by one rate a
tick, and the frame that a pending one drops (70_reset_and_hazards.md R350). -/

namespace Sys2Proof.Machine

/-! ### Convergence -/

/-- One step up, the target not passed; where the channel is at its target this is the target too. -/
theorem toNat_fadeLevel_of_le {a t : Level} (on off : Level) (h : a.toNat ≤ t.toNat) :
    (fadeLevel on off a t).toNat = min (a.toNat + on.toNat) t.toNat := by
  rcases h.eq_or_lt with heq | hlt
  · rw [BitVec.eq_of_toNat_eq heq, fadeLevel_self, min_eq_right (Nat.le_add_right _ _)]
  · exact_mod_cast toNat_fadeLevel_of_lt on off hlt

/-- One step down, the target not passed. -/
theorem toNat_fadeLevel_of_ge {a t : Level} (on off : Level) (h : t.toNat ≤ a.toNat) :
    ((fadeLevel on off a t).toNat : Int) = max ((a.toNat : Int) - off.toNat) t.toNat := by
  rcases h.eq_or_lt with heq | hlt
  · rw [BitVec.eq_of_toNat_eq heq, fadeLevel_self, max_eq_right (by omega)]
  · exact toNat_fadeLevel_of_gt on off hlt

/-- A TICK moves every channel by one fade step (44_fade.md R240). -/
theorem levelAt_outputHandler_actual {s : State} (hs : s.wf = true) (ha : s.armed = true)
    (hf : s.cfg.fadeEnabled = true) {l : Nat} (hl : l < s.cfg.channels) :
    levelAt (outputHandler s).actual l = fadedLevel s l := by
  rw [outputHandler_of_fadeEnabled hs ha hf, fadeStep_actual, (fadeAll_fadedFrom hs).level,
    if_pos (List.mem_range.2 hl)]

/-- Channel `l` after `k` ticks from `s` (44_fade.md R251). -/
def FadedBy (k : Nat) (s t : State) (l : Nat) : Prop :=
  ((levelAt s.actual l).toNat ≤ (levelAt s.target l).toNat →
    (levelAt t.actual l).toNat = min ((levelAt s.actual l).toNat + k * s.fadeOn.toNat) (levelAt s.target l).toNat) ∧
  ((levelAt s.target l).toNat ≤ (levelAt s.actual l).toNat →
    ((levelAt t.actual l).toNat : Int) =
      max (((levelAt s.actual l).toNat : Int) - k * s.fadeOff.toNat) (levelAt s.target l).toNat)

theorem FadedBy.zero (s : State) (l : Nat) : FadedBy 0 s s l := by
  unfold FadedBy
  omega

/-- A fade step that stops at the target, and `k` more of them, are `k + 1` of them. -/
theorem FadedBy.succ {k : Nat} {s u t : State} {l : Nat} (htarget : u.target = s.target) (hon : u.fadeOn = s.fadeOn)
    (hoff : u.fadeOff = s.fadeOff) (hstep : levelAt u.actual l = fadedLevel s l) (h : FadedBy k u t l) :
    FadedBy (k + 1) s t l := by
  unfold FadedBy at h ⊢
  rw [htarget, hon, hoff, hstep, fadedLevel] at h
  obtain ⟨hup, hdown⟩ := h
  rw [Nat.succ_mul, Nat.cast_succ, add_mul, one_mul]
  refine ⟨fun hle => ?_, fun hge => ?_⟩
  · have hfirst := toNat_fadeLevel_of_le s.fadeOn s.fadeOff hle
    rw [hup (by omega)]
    omega
  · have hfirst := toNat_fadeLevel_of_ge s.fadeOn s.fadeOff hge
    have hrate : (0 : Int) ≤ k * s.fadeOff.toNat := by positivity
    rw [hdown (by omega)]
    omega

theorem core_run_succ (M : Host.Core) {s t : M.State} (h : M.step s = .next t) (k : Nat) :
    M.run (k + 1) s = M.run k t := by
  simp only [Host.Core.run, h]

/-- `k` ticks in a row, with what they leave of the state. -/
theorem run_ticks (k : Nat) {s : State} (hs : s.wf = true) (ha : s.armed = true) (hf : s.cfg.fadeEnabled = true)
    (hi : s.inputs = List.replicate k (.tick tickWord)) :
    ∃ t, Sys2Proof.core.run k s = .next t ∧ t.target = s.target ∧ ∀ l < s.cfg.channels, FadedBy k s t l := by
  induction k generalizing s with
  | zero => exact ⟨s, rfl, rfl, fun l _ => .zero s l⟩
  | succ k ih =>
    have hstep := step_tick_of_armed hi ha
    have hu : (s.take (List.replicate k (.tick tickWord))).wf = true := hs
    obtain ⟨t, hrun, htarget, hlevel⟩ := ih (s := outputHandler (s.take (List.replicate k (.tick tickWord))))
      (outputHandler_wf hu ha) (by simpa using ha) (by simpa using hf) (by simp)
    refine ⟨t, (core_run_succ Sys2Proof.core hstep k).trans hrun, by simpa using htarget, fun l hl => ?_⟩
    exact .succ (by simp) (by simp) (by simp) (levelAt_outputHandler_actual hu ha hf hl) (hlevel l (by simpa using hl))

/-- Settles O42: by induction on the number of ticks, each of which is one fade step of every channel. -/
theorem fadeConverges : Obligations.FadeConverges := by
  intro k s hs ha hf hi
  obtain ⟨t, hrun, htarget, hlevel⟩ := run_ticks k hs ha hf hi
  refine ⟨t, hrun, htarget, ?_⟩
  rintro l hl a d n rfl rfl rfl
  exact hlevel l hl

/-! ### The dropped frame -/

/-- Where no channel has a new level, the loop changes nothing. -/
theorem fadeAll_of_settled {s : State} (h : ∀ l < s.cfg.channels, levelAt s.actual l = levelAt s.target l) :
    fadeAll s = (s, false) := by
  refine List.foldlRecOn (motive := (· = (s, false))) (List.range s.cfg.channels) fadeChannel rfl fun p hp l hl => ?_
  rw [hp]
  obtain ⟨-, hq⟩ | ⟨hne, -⟩ := fadeChannel_cases (s, false) l
  · exact hq
  · rw [h l (List.mem_range.1 hl), fadeLevel_self] at hne
    exact absurd rfl hne

theorem fadeStep_of_settled {s : State} (h : ∀ l < s.cfg.channels, levelAt s.actual l = levelAt s.target l) :
    fadeStep s = s := by
  rw [fadeStep, fadeAll_of_settled h, if_neg Bool.false_ne_true]

/-- Settles O43: the pending frame is the one shifted, and a fade step of settled channels does nothing. -/
theorem droppedFadeFrame : Obligations.DroppedFadeFrame := by
  intro s hs ha hf hp
  have hexec := exec_tick_of_armed ha
  have heq := outputHandler_of_fadeEnabled hs ha hf
  have hwf := outputHandler_wf hs ha
  have hpending : (fadeStep s).pending = true := by rw [fadeStep_pending, hp, Bool.true_or]
  have htb : (fadeStep s).tb = s.tb := by rw [fadeStep_tb, if_neg (by simp [hp])]
  rw [hpending, htb, if_pos rfl] at heq
  refine ⟨outputHandler s, hexec, by rw [heq], by rw [heq], fun hsettled => ?_⟩
  generalize outputHandler s = t at heq hwf hsettled
  have hawait : t.awaitLatch = true := by rw [heq]
  have hfree : t.pending = false := by rw [heq]
  have hblank : t.blankPin = false := by rw [heq]
  have ha' : t.armed = true := by rw [heq, ha]
  have hf' : t.cfg.fadeEnabled = true := by rw [heq, hf]
  have hcfg : t.cfg = s.cfg := by rw [heq]
  rw [← hcfg] at hsettled
  rw [exec_tick_of_fadeEnabled hwf ha' hf', fadeStep_of_settled hsettled]
  simp [hawait, hfree, hblank]

end Sys2Proof.Machine
end

section
/-! The configuration and its mapper (40_mapper.md): SWAPS with disjoint pairs (R142), the checks on a configuration with
LOCAL_PERM's as bijectivity (R143, R144, R147), and Map against the chip chain (60_exceptions.md R315). -/

namespace Sys2Proof.Machine

/-! ### Disjoint swaps -/

/-- Two pairs that share no index may be applied in either order. -/
theorem swapPair_comm {p q : Nat × Nat} (h : p.1 ≠ q.1 ∧ p.1 ≠ q.2 ∧ p.2 ≠ q.1 ∧ p.2 ≠ q.2) (x : Nat) :
    swapPair (swapPair x p) q = swapPair (swapPair x q) p := by
  unfold swapPair
  split_ifs <;> omega

theorem foldl_swapPair_comm {p : Nat × Nat} {ps : List (Nat × Nat)}
    (h : ∀ q ∈ ps, p.1 ≠ q.1 ∧ p.1 ≠ q.2 ∧ p.2 ≠ q.1 ∧ p.2 ≠ q.2) (x : Nat) :
    ps.foldl swapPair (swapPair x p) = swapPair (ps.foldl swapPair x) p := by
  induction ps generalizing x with
  | nil => rfl
  | cons q ps ih =>
    rw [List.foldl_cons, swapPair_comm (h q List.mem_cons_self), ih fun r hr => h r (List.mem_cons_of_mem q hr),
      List.foldl_cons]

theorem foldl_swapPair_involutive {ps : List (Nat × Nat)}
    (h : ps.Pairwise fun p q => p.1 ≠ q.1 ∧ p.1 ≠ q.2 ∧ p.2 ≠ q.1 ∧ p.2 ≠ q.2) (x : Nat) :
    ps.foldl swapPair (ps.foldl swapPair x) = x := by
  induction ps generalizing x with
  | nil => rfl
  | cons p ps ih =>
    obtain ⟨hp, hps⟩ := List.pairwise_cons.1 h
    rw [List.foldl_cons, List.foldl_cons, foldl_swapPair_comm hp, foldl_swapPair_comm hp,
      foldl_swapPair_comm hp, swapPair_swapPair, ih hps]

/-- Settles O20: Swap is the fold over SWAPS. -/
theorem swapIsInvolution : Obligations.SwapIsInvolution :=
  fun _ h x => foldl_swapPair_involutive h x

/-! ### Accepted configurations -/

/-- A table of 16 entries repeats none exactly when every index below 16 is an entry (40_mapper.md R144). -/
theorem nodup_iff_forall_exists_getElem? {p : List (Fin 16)} (hlen : p.length = 16) :
    p.Nodup ↔ ∀ v, ∃ j < 16, p[j]? = some v := by
  have hmem (v : Fin 16) : v ∈ p ↔ ∃ j < 16, p[j]? = some v := by
    rw [List.mem_iff_getElem?]
    refine ⟨fun ⟨j, hj⟩ => ⟨j, ?_, hj⟩, fun ⟨j, _, hj⟩ => ⟨j, hj⟩⟩
    obtain ⟨hlt, -⟩ := List.getElem?_eq_some_iff.1 hj
    omega
  simp only [← hmem, ← List.mem_toFinset, ← Finset.eq_univ_iff_forall, ← Finset.card_eq_iff_eq_univ, Fintype.card_fin]
  exact (Multiset.toFinset_card_eq_card_iff_nodup (m := (p : Multiset (Fin 16)))).symm.trans
    (by rw [Multiset.coe_card, hlen]; rfl)

/-- The model's checks, with "no entry repeated" read as "every index an entry". -/
theorem wf_iff_forall_exists_getElem? (r : RawConfig) :
    r.wf = true ↔
      1 ≤ r.deviceCount ∧ r.deviceCount ≤ 256 ∧
        (∀ p ∈ r.swaps, p.1 < 16 * r.deviceCount ∧ p.2 < 16 * r.deviceCount ∧ p.1 ≠ 0 ∧ p.2 ≠ 0) ∧
        r.localPerm.length = 16 ∧ (∀ v : Fin 16, ∃ j < 16, r.localPerm[j]? = some v) ∧ r.localPerm[0]? = some 0 ∧
        r.dcTable.length = 16 * r.deviceCount := by
  rw [RawConfig.wf_iff]
  constructor
  · rintro ⟨⟨hlo, hhi⟩, hrange, hnonzero, hlen, hnodup, hzero, htable⟩
    exact ⟨hlo, hhi, fun p hp => ⟨(hrange p hp).1, (hrange p hp).2, hnonzero p hp⟩, hlen,
      (nodup_iff_forall_exists_getElem? hlen).1 hnodup, hzero, htable⟩
  · rintro ⟨hlo, hhi, hswaps, hlen, hall, hzero, htable⟩
    have hrange : ∀ p ∈ r.swaps, p.1 < r.channels ∧ p.2 < r.channels := fun p hp =>
      ⟨(hswaps p hp).1, (hswaps p hp).2.1⟩
    exact ⟨⟨hlo, hhi⟩, hrange, fun p hp => (hswaps p hp).2.2, hlen,
      (nodup_iff_forall_exists_getElem? hlen).2 hall, hzero, htable⟩

/-- Settles O21: the condition is the model's check, which `Config.ofRaw` asks once. -/
theorem illFormedConfigRefused : Obligations.IllFormedConfigRefused := by
  intro r
  rw [← wf_iff_forall_exists_getElem?]
  exact ⟨fun h => ⟨⟨r, h⟩, dif_pos h, rfl⟩, fun h => ⟨r.firstError, dif_neg h⟩⟩

/-! ### The mapper against the chip chain -/

/-- Settles O58: the group of R313 counts devices and outputs from the far end, as the closed form of Map does. -/
theorem channelLandsOnItsOutput : Obligations.ChannelLandsOnItsOutput := by
  intro c x k hk
  have hlt : k < 16 * c.deviceCount := hk ▸ swapStage_lt (clampChannel_lt c x)
  exact ⟨mapClosedForm c x k hk, by omega, localPin_lt c _⟩

end Sys2Proof.Machine
end

section
/-! The copy loop of CoordinatorUpdate (42_coordinator.md R190) against the model's single assignment
(notes/assumptions/8.md). -/

namespace Sys2Proof.Machine

/-- After `n` bytes the copy reads as the source below `n` and as the old contents from there on. -/
theorem copyBytes_wf_read {bytes n : Nat} {src dst : Memory} (hdst : dst.wf bytes = true) (hn : n ≤ bytes) :
    (copyBytes n src dst).wf bytes = true ∧
      ∀ k, (copyBytes n src dst).read k = if k < n then src.read k else dst.read k := by
  induction n with
  | zero => exact ⟨hdst, fun k => by simp [copyBytes]⟩
  | succ n ih =>
    obtain ⟨hwf, hread⟩ := ih (by omega)
    have hlast : copyBytes (n + 1) src dst = (copyBytes n src dst).write n (src.read n) := by
      rw [copyBytes, List.range_succ, List.foldl_append]
      rfl
    rw [hlast]
    refine ⟨Memory.wf_write hwf _ hn, fun k => ?_⟩
    rw [Memory.read_write hwf, hread]
    by_cases hk : n = k
    · simp [hk]
    · simp [hk, show k < n + 1 ↔ k < n by omega]

/-- Settles O32: after all its bytes the copy reads as the source, and both are canonical. -/
theorem copyLoopIsWholeCopy : Obligations.CopyLoopIsWholeCopy := by
  intro bytes src dst hsrc hdst
  obtain ⟨hwf, hread⟩ := copyBytes_wf_read (src := src) hdst le_rfl
  exact Memory.ext_of_wf hwf hsrc fun k hk => by rw [hread, if_pos hk]

end Sys2Proof.Machine
end

section
/-! The invariants at reset and of every reachable state (10_state.md R61): what the earlier sections show of one step,
together. -/

namespace Sys2Proof.Machine

/-! ### The fade registers of the direct variant -/

theorem Effect.fadeUnused {s t : State} {e : PortEvent} (h : Effect s e t) (hs : s.fadeUnused) : t.fadeUnused := by
  cases h with
  | passed => exact hs
  | recorded => exact hs
  | initAccepted => rwa [acceptedInit_eq]
  | targeted _ _ hf => exact fun hdirect => absurd (hdirect.symm.trans hf) Bool.false_ne_true
  | packed => exact hs
  | rated => exact hs
  | requested => rwa [coordinatorUpdate_eq]
  | ticked =>
    intro hdirect
    rw [outputHandler_cfg] at hdirect
    rw [outputHandler_of_direct hdirect]
    exact hs hdirect

/-- Settles O51: SETB writes TARGET, and the fade step ACTUAL, in the fade variant only. -/
theorem stepKeepsFadeUnused : Obligations.StepKeepsFadeUnused :=
  fun _ _ hs hstep => step_keeps (P := State.fadeUnused) (fun _ _ h => h) (fun _ _ _ hs h => h.fadeUnused hs) hs hstep

/-! ### From reset on -/

/-- A buffer of zeros unpacks to 0 everywhere (10_state.md R60). -/
theorem unpack_nil (i : Nat) : unpack [] i = 0#12 := by
  unfold unpack
  split_ifs <;> simp

/-- Settles O48: the buffers are empty, the registers 0, the trace empty and the block not armed. -/
theorem resetMeetsInvariants : Obligations.ResetMeetsInvariants := by
  rintro c ins s rfl
  refine ⟨(State.wf_iff _).2 ⟨rfl, rfl, List.length_replicate, List.length_replicate, Nat.zero_le 4⟩,
    fun _ l _ => ?_, fun _ => ⟨rfl, rfl⟩, fun _ => rfl, ⟨rfl, rfl⟩, nofun⟩
  exact (unpack_nil _).trans (levelAt_replicate_zero _ l).symm

/-- Settles O55: by induction on how the state is reached, each invariant by its own step lemma; a reset in mid-run is
the state that a reset of the same configuration leaves. -/
theorem reachableStatesSafe : Obligations.ReachableStatesSafe := by
  intro c s hreach
  induction hreach with
  | reset inputs => exact ⟨rfl, resetMeetsInvariants c inputs _ rfl⟩
  | @step s t _ hstep ih =>
    obtain ⟨hcfg, hwf, hmirror, hunused, hquiet, hpins, hframes⟩ := ih
    obtain ⟨hkept, -⟩ := tracesOnlyGrow s t hstep
    exact ⟨hkept.trans hcfg, stepKeepsForm s t hwf hstep, stepKeepsMirror s t hwf hmirror hstep,
      stepKeepsFadeUnused s t hunused hstep, stepKeepsQuietBeforeInit s t hquiet hstep, stepKeepsPins s t hpins hstep,
      stepKeepsWholeFrames s t hquiet hframes hstep⟩
  | @powerUp s _ ih => exact ⟨ih.1, resetMeetsInvariants s.cfg s.inputs _ rfl⟩

end Sys2Proof.Machine
end

section
/-! POLL (30_encoding.md R122): one turn of its loop by the answer of its REQ, and the loop across a TICK
(42_coordinator.md R195). -/

namespace Sys2Proof.Machine

theorem exec_req_next (s : State) : ∃ t, exec .req s = .next t := by
  cases ha : s.armed with
  | false => exact ⟨_, exec_of_not_armed nofun nofun ha⟩
  | true => exact ⟨_, exec_req_of_armed ha⟩

/-- A turn of POLL's loop is one REQ, whose answer `b` decides how the program goes on. -/
theorem hostTurn_poll {s t : State} {b : Bool} (h : exec .req s = .next t) (hanswer : (s.armed && !s.pending) = b)
    (rest : List HostAction) :
    t.resp = s.resp ++ [b] ∧
      Session.hostTurn ⟨s, .pollLoop :: rest⟩ = .next ⟨t, if b then rest else .pollLoop :: rest⟩ := by
  have hresp : t.resp = s.resp ++ [b] := hanswer ▸ exec_resp h
  have hturn : Session.hostTurn ⟨s, .pollLoop :: rest⟩ =
      andThen (requestOnce s) fun u => .next ⟨u, afterPoll u rest⟩ := rfl
  rw [hturn, requestOnce_eq, h, andThen_next, afterPoll_eq hresp]
  exact ⟨hresp, rfl⟩

/-- The timing source's turn is a TICK once the block is armed; the deliveries to come stay as they are. -/
theorem tickTurn_of_armed {s : State} (ha : s.armed = true) (program : List HostAction) :
    Session.tickTurn ⟨s, program⟩ = .next ⟨outputHandler s, program⟩ := by
  have hstep : turn (.tick (encode .tick)) s = .next (outputHandler s) :=
    step_tick_of_armed (s := s.deliver (.tick tickWord)) rfl ha
  rw [Session.tickTurn, hstep, andThen_next]

/-- While a frame is pending, `n` turns of the loop answer `n` zeros and change nothing else. -/
theorem run_poll_of_pending {s : State} (ha : s.armed = true) (hp : s.pending = true) (rest : List HostAction)
    (n : Nat) :
    Session.run (List.replicate n .host) ⟨s, .pollLoop :: rest⟩ =
      .next ⟨{ s with resp := s.resp ++ List.replicate n false }, .pollLoop :: rest⟩ := by
  induction n generalizing s with
  | zero => simp
  | succ n ih =>
    obtain ⟨-, hturn⟩ := hostTurn_poll (b := false) ((reqBusy s hp).2 ha) (by simp [hp]) rest
    rw [List.replicate_succ, Session.run_cons, Session.agentTurn, hturn, andThen_next]
    refine (ih (s := { s with resp := s.resp ++ [false] }) ha hp).trans ?_
    simp [List.replicate_succ]

/-- With no frame pending the loop ends in one turn, which queues the write buffer (42_coordinator.md R192). -/
theorem run_poll_of_not_pending {s : State} (ha : s.armed = true) (hp : s.pending = false) (rest : List HostAction) :
    Session.run [.host] ⟨s, .pollLoop :: rest⟩ =
      .next ⟨{ s with tb := s.wb, pending := true, resp := s.resp ++ [true] }, rest⟩ := by
  obtain ⟨-, hturn⟩ := hostTurn_poll (b := true) ((reqAccepted s hp).2 ha) (by simp [ha, hp]) rest
  rw [Session.run_cons, Session.agentTurn, hturn, andThen_next, Session.run_nil,
    if_pos rfl]

/-- Settles O36: turns answered 0 up to the TICK, which leaves no frame pending, and one turn answered 1 after it. -/
theorem pollEndsAtNextTick : Obligations.PollEndsAtNextTick := by
  refine fun s rest => ⟨?_, fun ha hp n => ?_, fun ha hp => ?_⟩
  · obtain ⟨t, hexec⟩ := exec_req_next s
    cases hanswer : s.armed && !s.pending with
    | false =>
      obtain ⟨hresp, hturn⟩ := hostTurn_poll hexec hanswer rest
      exact ⟨_, hturn, .inr ⟨rfl, hresp⟩⟩
    | true =>
      obtain ⟨hresp, hturn⟩ := hostTurn_poll hexec hanswer rest
      exact ⟨_, hturn, .inl ⟨rfl, hresp⟩⟩
  · have hwaiting := run_poll_of_pending ha hp rest n
    generalize hu : { s with resp := s.resp ++ List.replicate n false } = u at hwaiting
    have hua : u.armed = true := hu ▸ ha
    have hresp : (outputHandler u).resp = s.resp ++ List.replicate n false := by rw [outputHandler_resp, ← hu]
    have hlast := run_poll_of_not_pending (s := outputHandler u) (by simpa using hua) (outputHandler_pending u) rest
    have hrun : Session.run (List.replicate n .host ++ [.timingSource, .host]) ⟨s, .pollLoop :: rest⟩ =
        Session.run [.host] ⟨outputHandler u, .pollLoop :: rest⟩ := by
      rw [Session.run_append, hwaiting, andThen_next, Session.run_cons, Session.agentTurn, tickTurn_of_armed hua,
        andThen_next]
    exact ⟨_, hrun.trans hlast, rfl, congrArg (· ++ [true]) hresp, rfl, rfl⟩
  · exact ⟨_, run_poll_of_not_pending ha hp rest, rfl, rfl, rfl, rfl⟩

end Sys2Proof.Machine
end

section
/-! The LED chip chain behind the signal port (60_exceptions.md R312–R316; notes/assumptions/10.md): what a run of bits,
an INIT and a TICK leave in its registers, and the value that each output shows. -/

namespace Sys2Proof.Machine

/-! ### The chain over a trace -/

theorem Chain.wf_iff (h : Chain) :
    h.wf = true ↔ h.gsShift.length = 192 * h.devices ∧ h.gsLatch.length = 192 * h.devices ∧
      h.dcShift.length = 96 * h.devices ∧ h.dcLatch.length = 96 * h.devices := by
  simp [Chain.wf, and_assoc]

theorem Chain.watch_append (h : Chain) (xs ys : List OutEvent) : h.watch (xs ++ ys) = (h.watch xs).watch ys :=
  List.foldl_append

/-- A chain has at least one device, so its registers keep their widths (R313). -/
theorem length_shiftIn {reg : List Bool} (hpos : 0 < reg.length) (b : Bool) : (shiftIn reg b).length = reg.length := by
  rw [shiftIn, List.length_append, List.length_drop, List.length_singleton, Nat.sub_add_cancel hpos]

/-- As many bits as the register is wide replace its contents, and fewer push out as many (R313). -/
theorem foldl_shiftIn {reg bits : List Bool} (h : bits.length ≤ reg.length) :
    bits.foldl shiftIn reg = reg.drop bits.length ++ bits := by
  induction bits generalizing reg with
  | nil => simp
  | cons b bits ih =>
    rw [List.length_cons] at h
    have hfits : bits.length ≤ (shiftIn reg b).length := by rw [length_shiftIn (by omega)]; omega
    have htail : bits.length ≤ (reg.drop 1).length := by rw [List.length_drop]; omega
    rw [List.foldl_cons, ih hfits, shiftIn, List.drop_append_of_le_length htail, List.drop_drop,
      List.length_cons, Nat.add_comm, List.append_assoc]
    rfl

/-- A whole register's bits are all it holds afterwards. -/
theorem foldl_shiftIn_of_length_eq {reg bits : List Bool} (h : bits.length = reg.length) :
    bits.foldl shiftIn reg = bits := by
  rw [foldl_shiftIn h.le, h, List.drop_length, List.nil_append]

/-- Bits are shifted into the register that VPRG selects, and reach nothing else (R313, R314). -/
theorem Chain.watch_bits (h : Chain) (bits : List Bool) :
    h.watch (bits.map .bit) =
      if h.vprg then { h with dcShift := bits.foldl shiftIn h.dcShift }
      else { h with gsShift := bits.foldl shiftIn h.gsShift } := by
  induction bits generalizing h with
  | nil => exact (ite_self h).symm
  | cons b bits ih =>
    rw [List.map_cons, Chain.watch, List.foldl_cons, ← Chain.watch, ih]
    cases hv : h.vprg <;> simp [Chain.observe, Chain.clock, hv]

@[simp] theorem Chain.observe_devices (h : Chain) (e : OutEvent) : (h.observe e).devices = h.devices := by
  cases e <;> simp [Chain.observe, Chain.clock, Chain.latchPulse, apply_ite Chain.devices]

theorem Chain.clock_wf {h : Chain} (hw : h.wf = true) (hpos : 0 < h.devices) (b : Bool) : (h.clock b).wf = true := by
  obtain ⟨hgs, hgl, hdc, hdl⟩ := h.wf_iff.1 hw
  unfold Chain.clock
  split_ifs
  · exact (Chain.wf_iff _).2 ⟨hgs, hgl, (length_shiftIn (by omega) b).trans hdc, hdl⟩
  · exact (Chain.wf_iff _).2 ⟨(length_shiftIn (by omega) b).trans hgs, hgl, hdc, hdl⟩

theorem Chain.latchPulse_wf {h : Chain} (hw : h.wf = true) : h.latchPulse.wf = true := by
  obtain ⟨hgs, hgl, hdc, hdl⟩ := h.wf_iff.1 hw
  unfold Chain.latchPulse
  split_ifs
  · exact (Chain.wf_iff _).2 ⟨hgs, hgl, hdc, hdc⟩
  · exact (Chain.wf_iff _).2 ⟨hgs, hgs, hdc, hdl⟩

theorem Chain.observe_wf {h : Chain} (hw : h.wf = true) (hpos : 0 < h.devices) (e : OutEvent) :
    (h.observe e).wf = true := by
  cases e with
  | blank => exact hw
  | mode => exact hw
  | bit b => exact Chain.clock_wf hw hpos b
  | latch => exact Chain.latchPulse_wf hw
  | extraClock => exact Chain.clock_wf hw hpos false

/-- The widths and the number of devices stay as they are (R312, R313). -/
theorem Chain.watch_wf {h : Chain} (hw : h.wf = true) (hpos : 0 < h.devices) (es : List OutEvent) :
    (h.watch es).wf = true ∧ (h.watch es).devices = h.devices := by
  induction es generalizing h with
  | nil => exact ⟨hw, rfl⟩
  | cons e es ih =>
    obtain ⟨hwidths, hdevices⟩ := ih (Chain.observe_wf hw hpos e) (by simpa using hpos)
    exact ⟨hwidths, hdevices.trans (Chain.observe_devices h e)⟩

/-- The chain's VPRG is the level that the trace's last `Mode` event left (10_state.md R36). -/
theorem Chain.watch_vprg {h : Chain} (hv : h.vprg = false) (es : List OutEvent) :
    (h.watch es).vprg = modeLevel es := by
  induction es using List.reverseRecOn with
  | nil => exact hv
  | append_singleton es e ih =>
    rw [Chain.watch_append, modeLevel, List.foldl_append, ← modeLevel, ← ih]
    cases e <;> simp [Chain.watch, Chain.observe, Chain.clock, Chain.latchPulse, apply_ite Chain.vprg]

/-- The chain that watches a state's trace has its widths and the block's number of devices. -/
theorem display_wf {s : State} {h : Chain} (hdev : h.devices = s.cfg.deviceCount) (hw : h.wf = true) :
    (s.display h).wf = true ∧ (s.display h).devices = s.cfg.deviceCount := by
  obtain ⟨⟨hpos, -⟩, -⟩ := s.cfg.wf_iff
  obtain ⟨hwatched, hdevices⟩ :=
    Chain.watch_wf (h := { h with blank := true, vprg := false }) hw (hdev ▸ hpos) s.out
  exact ⟨hwatched, hdevices.trans hdev⟩

/-! ### An INIT -/

/-- Phase (a): the dot-correction register takes DCStream, which is latched (45_init.md R272, R273). -/
theorem Chain.watch_writeDotCorrection {g : Chain} {c : Config} (hw : g.wf = true)
    (hdev : g.devices = c.deviceCount) :
    g.watch ([.blank true, .mode true] ++ (dcStream c).map .bit ++ [.latch, .mode false]) =
      { g with dcShift := dcStream c, dcLatch := dcStream c, blank := true, vprg := false } := by
  obtain ⟨-, -, hdc, -⟩ := g.wf_iff.1 hw
  have hwhole : (dcStream c).foldl shiftIn g.dcShift = dcStream c :=
    foldl_shiftIn_of_length_eq (by rw [dcStream_length, hdc, hdev, Config.correctionBits])
  have hstart : g.watch [.blank true, .mode true] = { g with blank := true, vprg := true } := rfl
  rw [Chain.watch_append, Chain.watch_append, hstart, Chain.watch_bits, if_pos rfl, hwhole]
  rfl

/-- Phase (b): the grayscale register takes zeros, which are latched, and the extra pulse moves the shift register only
(45_init.md R275, R276). -/
theorem Chain.watch_seedGrayscale {g : Chain} {n : Nat} (hw : g.wf = true) (hdev : g.devices = n)
    (hv : g.vprg = false) :
    g.watch (List.replicate (192 * n) (.bit false) ++ [.latch, .extraClock]) =
      { g with
        gsShift := shiftIn (List.replicate (192 * n) false) false
        gsLatch := List.replicate (192 * n) false } := by
  obtain ⟨hgs, -⟩ := g.wf_iff.1 hw
  have hwhole : (List.replicate (192 * n) false).foldl shiftIn g.gsShift = List.replicate (192 * n) false :=
    foldl_shiftIn_of_length_eq (by rw [List.length_replicate, hgs, hdev])
  rw [Chain.watch_append, ← List.map_replicate, Chain.watch_bits, hv, if_neg Bool.false_ne_true,
    hwhole]
  simp [Chain.watch, Chain.observe, Chain.latchPulse, Chain.clock]

/-- Settles O59: whatever the chain held, it has the right widths when INIT comes. -/
theorem chainAfterInit : Obligations.ChainAfterInit := by
  intro s h ha hdev hw
  obtain ⟨hwatched, hdevices⟩ := display_wf hdev hw
  have hphase := Chain.watch_writeDotCorrection hwatched hdevices
  obtain ⟨⟨hpos, -⟩, -⟩ := s.cfg.wf_iff
  obtain ⟨hwidths, -⟩ := Chain.watch_wf hwatched (hdevices ▸ hpos)
    ([.blank true, .mode true] ++ (dcStream s.cfg).map .bit ++ [.latch, .mode false])
  rw [hphase] at hwidths
  refine ⟨_, initEffect s ha, ?_⟩
  rw [State.display, Chain.watch_append, ← State.display, List.append_assoc (_ ++ _), Chain.watch_append, hphase,
    Chain.watch_seedGrayscale hwidths hdevices rfl]
  exact ⟨rfl, rfl, fun _ _ => if_pos rfl⟩

/-! ### A TICK -/

/-- What the events of a TICK leave in the chain: the frame shifted before is latched, and the bits are shifted in
(43_output_handler.md R211–R215). -/
theorem Chain.watch_tick {g : Chain} (hv : g.vprg = false) (await : Bool) (bits : List Bool) :
    g.watch ([.blank true] ++ (if await then [.latch] else []) ++ [.blank false] ++ bits.map .bit) =
      { g with
        gsShift := bits.foldl shiftIn g.gsShift
        gsLatch := if await then g.gsShift else g.gsLatch
        blank := false } := by
  have hstart : g.watch ([.blank true] ++ (if await then [.latch] else []) ++ [.blank false]) =
      { g with gsLatch := if await then g.gsShift else g.gsLatch, blank := false } := by
    cases await <;> simp [Chain.watch, Chain.observe, Chain.latchPulse, hv]
  rw [Chain.watch_append, hstart, Chain.watch_bits, hv, if_neg Bool.false_ne_true]

theorem armed_of_exec_tick {s t : State} (h : exec .tick s = .next t) : s.armed = true := by
  cases ha : s.armed with
  | false => simp [exec, execTick, ha] at h
  | true => rfl

/-- The chain after a TICK, by the chain before it (43_output_handler.md R217). -/
theorem display_tick {s t : State} {h : Chain} (hdev : h.devices = s.cfg.deviceCount) (hw : h.wf = true)
    (hmode : modeLevel s.out = false) (hexec : exec .tick s = .next t) :
    t.display h =
      { s.display h with
        gsShift := if t.awaitLatch then gsStream s.cfg.bufferBytes t.tb else (s.display h).gsShift
        gsLatch := if s.awaitLatch then (s.display h).gsShift else (s.display h).gsLatch
        blank := false } := by
  have ha : s.armed = true := armed_of_exec_tick hexec
  obtain ⟨t', hexec', hout, -, hshift, -⟩ := tickEvents s ha
  obtain rfl := Host.Outcome.next.inj (hexec'.symm.trans hexec)
  obtain ⟨hwatched, hdevices⟩ := display_wf hdev hw
  obtain ⟨hgs, -⟩ := (Chain.wf_iff _).1 hwatched
  have hvprg : (s.display h).vprg = false := (Chain.watch_vprg rfl s.out).trans hmode
  have hwhole : (gsStream s.cfg.bufferBytes t'.tb).foldl shiftIn (s.display h).gsShift =
      gsStream s.cfg.bufferBytes t'.tb :=
    foldl_shiftIn_of_length_eq (by rw [gsStream_length, hgs, hdevices, eight_mul_bufferBytes, Config.frameBits])
  have hevents : t'.out = s.out ++ ([.blank true] ++ (if s.awaitLatch then [.latch] else []) ++ [.blank false] ++
      (if t'.awaitLatch then gsStream s.cfg.bufferBytes t'.tb else []).map .bit) := by
    rw [hout, hshift, apply_ite (List.map OutEvent.bit)]
    simp only [List.append_assoc, List.map_nil]
  rw [State.display, hevents, Chain.watch_append, ← State.display, Chain.watch_tick hvprg]
  cases t'.awaitLatch with
  | false => rfl
  | true => rw [if_pos rfl, hwhole, if_pos rfl]

/-! ### What an output shows -/

/-- The 12 stream bits of a channel are its value, most significant first (20_memory.md R86). -/
theorem take_drop_gsStream (c : Config) (x : Memory) {i : Nat} (hi : i < c.channels) :
    ((gsStream c.bufferBytes x).drop (12 * i)).take 12 = msbFirst (unpack x i) := by
  obtain ⟨-, -, hchannel⟩ := streamOrder c x
  refine List.ext_getElem? fun j => ?_
  rw [List.getElem?_take, List.getElem?_drop]
  split_ifs with hj
  · rw [hchannel i hi j hj, getElem?_msbFirst _ hj]
  · rw [List.getElem?_eq_none (by simpa using hj)]

/-- The first `k` bits spell the number without its other bits. -/
theorem natOfBits_take_msbFirst {n : Nat} (v : BitVec n) {k : Nat} (hk : k ≤ n) :
    natOfBits ((List.range k).map v.getMsbD) = v.toNat / 2 ^ (n - k) := by
  induction k with
  | zero => exact (Nat.div_eq_of_lt v.isLt).symm
  | succ k ih =>
    have hbit : (v.getMsbD k).toNat = v.toNat / 2 ^ (n - (k + 1)) % 2 := by
      rw [BitVec.getMsbD, decide_eq_true (Nat.lt_of_succ_le hk), Bool.true_and, Nat.sub_sub, Nat.add_comm 1 k, BitVec.getLsbD,
        Nat.toNat_testBit]
    have hhalf : v.toNat / 2 ^ (n - k) = v.toNat / 2 ^ (n - (k + 1)) / 2 := by
      rw [Nat.div_div_eq_div_mul, ← pow_succ]
      congr 2
      omega
    have hlast : natOfBits ((List.range (k + 1)).map v.getMsbD) =
        2 * natOfBits ((List.range k).map v.getMsbD) + (v.getMsbD k).toNat := by
      simp [natOfBits, List.range_succ]
    rw [hlast, ih (by omega), hbit, hhalf]
    omega

theorem natOfBits_msbFirst {n : Nat} (v : BitVec n) : natOfBits (msbFirst v) = v.toNat := by
  rw [msbFirst, natOfBits_take_msbFirst v le_rfl, Nat.sub_self, pow_zero, Nat.div_one]

/-- With a frame latched and nothing blanked, a channel's own output shows its value (60_exceptions.md R315). -/
theorem shows_of_gsLatch {g : Chain} {c : Config} {x : Memory} (hdev : g.devices = c.deviceCount)
    (hlatch : g.gsLatch = gsStream c.bufferBytes x) (hblank : g.blank = false) {l : Nat} (hl : l < c.channels) :
    g.shows (swapStage c l / 16) (localPin c (swapStage c l % 16)) = unpack x (mapChannel c l) := by
  obtain ⟨hgroup, -⟩ := channelLandsOnItsOutput c l (swapStage c l) (by rw [min_eq_left (by omega)])
  rw [Chain.shows, hblank, if_neg Bool.false_ne_true, Chain.grayscale, hlatch, hdev, ← hgroup,
    take_drop_gsStream c x (mapChannel_lt c l), natOfBits_msbFirst, BitVec.ofNat_toNat, BitVec.setWidth_eq]

/-- Settles O60: the second TICK latches what the first one shifted in, and no event between them reaches the chain. -/
theorem latchedFrameIsShown : Obligations.LatchedFrameIsShown := by
  intro s t u v h hdev hw hmode hfirst hshifted hcfg hout hawait hsecond
  have ht := display_tick hdev hw hmode hfirst
  rw [hshifted, if_pos rfl] at ht
  have hkept : t.cfg = s.cfg := by
    rw [← Host.Outcome.next.inj ((exec_tick_of_armed (armed_of_exec_tick hfirst)).symm.trans hfirst), outputHandler_cfg]
  have hut : u.display h = t.display h := by rw [State.display, hout, ← State.display]
  have hstill : modeLevel u.out = false := calc
    modeLevel u.out = (u.display h).vprg := (Chain.watch_vprg rfl u.out).symm
    _ = (s.display h).vprg := by rw [hut, ht]
    _ = false := (Chain.watch_vprg rfl s.out).trans hmode
  have hudev : h.devices = u.cfg.deviceCount := by rw [hcfg, hkept, hdev]
  have hv := display_tick hudev hw hstill hsecond
  have hlatch : (v.display h).gsLatch = gsStream s.cfg.bufferBytes t.tb := by
    rw [hv, hawait, if_pos rfl, hut, ht]
  have hdevices : (v.display h).devices = s.cfg.deviceCount := by
    rw [hv, hut, ht]
    exact (display_wf hdev hw).2
  refine ⟨hlatch, ?_⟩
  rintro l hl k rfl
  exact shows_of_gsLatch hdevices hlatch (by rw [hv]) hl

end Sys2Proof.Machine
end
